-- ==== Sys2Proof/Word.lean ====
section
/-! DEFINITION. The word types of the block: bytes, 16-bit addresses, and lines of text.
Rules R9, R10 and R21 of the spec give the widths. -/

namespace Sys2Proof

/-- A byte of the buffer: "Byte width is 8 bits" (R9, R21). -/
abbrev Byte := BitVec 8

/-- A displayed address, the base address or a branch target: `ADDR_BITS` is fixed at 16 (R9). -/
abbrev Addr := BitVec 16

/-- A string of the listing, as the sequence of its characters (R11, R27). -/
abbrev Text := List Char

end Sys2Proof
end

