-- ==== Sys2Proof/Config.lean ====
section
/-! DEFINITION. The parameters of the block (R9): their fixed or default values, and the one
parameter the spec leaves open. -/

namespace Sys2Proof

/-- `ADDR_BITS`, "fixed at 16" (R9). The type `Addr` has this width. -/
def Config.addrBits : Nat := 16

/-- The default of the parameter `BASE`: "observed default: `0x5000`" (R9, R24). -/
def Config.defaultBase : Addr := 0x5000#16

/-- The default of the parameter `RAW_MNEMONIC`: `.byte` (R9, R78). -/
def Config.defaultRawMnemonic : Text := ['.', 'b', 'y', 't', 'e']

/-- `CUR_BITS`, the cursor width a hardware implementation chooses with `N < 2^CUR_BITS`
(92_eei_decisions.md D15, "OPEN"; log entry 10). No value of it can be proved. -/
opaque Config.curBits : Nat

end Sys2Proof
end

