-- ==== Sys2Proof/Machine/State.lean ====
section
/-! DEFINITION. The state of the block, the tuple `S = (BUF, N, BASE, cur, status, err, out)` of R20, as plain
data; the reasons a step can stop; and the state right after reset. -/

namespace Sys2Proof.Machine

/-- The bytes of the buffer by offset, as cells in one canonical form: offsets strictly rising, and no
cell for an offset that reads as `Memory.unlisted` (log entry 1). -/
abbrev Memory := List Host.Cell

/-- The pass status register (R25). Its numeric code is `statusCode` in Flags.lean. -/
inductive PassStatus where
  | running
  | done
  | truncated
  | reserved  -- code 3, "never written"
  deriving DecidableEq, Repr

/-- The error record (R26), meaningful only when `status = TRUNCATED`. -/
structure ErrRecord where
  /-- The cursor of the instruction that could not be completed. -/
  cur : Nat
  /-- `BUF[err.cur]`. -/
  opcode : Byte
  /-- The length the classifier gave that opcode, 2 or 3. -/
  need : BitVec 2
  /-- `N - err.cur`, the bytes present from the opcode on. -/
  avail : Nat
  deriving DecidableEq, Repr

/-- The state tuple of R20, and the parameter `RAW_MNEMONIC` (R9), which the model carries beside
`BASE` because a model takes it as an argument (log entry 4). -/
structure State where
  /-- `BUF`, the byte buffer (R21). -/
  buf : Memory
  /-- `N`, the length of the buffer, any natural number (R9, R20). -/
  n : Nat
  /-- `BASE`, the display base address (R24). -/
  base : Addr
  /-- `RAW_MNEMONIC`, the text of the raw data byte pseudo-instruction (R9, R78). -/
  rawMnemonic : Text
  /-- `cur`, the cursor, a natural number in `0..N` (R22). -/
  cur : Nat
  /-- `status`, the pass status (R25). -/
  status : PassStatus
  /-- `err`, the error record (R26). -/
  err : ErrRecord
  /-- `out`, the lines produced so far, in order (R27). -/
  out : List Text
  deriving DecidableEq, Repr

/-- Why the machine stops. None is an effect of an instruction: the block's own error,
`TruncatedInstruction`, is a next state (R212, R120). -/
inductive Fault where
  /-- `whenEnabled`: the pass has ended `DONE` and no step is enabled (R121). Safe: there is no next
  state in the spec (log entry 5). -/
  | passDone
  /-- `whenEnabled`: the pass has ended `TRUNCATED` and no step is enabled (R121). Safe, as `passDone`
  (log entry 5). -/
  | passTruncated
  /-- `memRead` at an offset at or past `N`: "a fault of the model, never a value" (R42, A5). Safe: the
  bounds check precedes every operand read (R104). -/
  | readPastEnd
  deriving DecidableEq, Repr

/-- What the model gives no meaning to. -/
inductive Refusal where
  /-- `exec`: an instruction that has no meaning yet. No arm raises it. Safe. -/
  | notModelled (mnemonic : String)
  /-- `whenEnabled` and `decodeOne`: a decode at `cur >= N`, outside its contract: "a model must give such a
  call no result (refuse)" (R100, A4). Safe (log entry 6). -/
  | cursorOutsideBuffer
  /-- `whenEnabled`: the status register holds the reserved value 3 (R25, A7 "refuse"). Safe (log
  entry 6). -/
  | reservedStatus
  deriving DecidableEq, Repr

/-- What one step or one instruction answers. -/
abbrev Result := Host.Outcome State Fault Refusal

/-- The error record at reset. Its contents are unspecified there (R26, R33): zero is a DESIGN CHOICE
(log entry 3), and no statement may rest on it. -/
def ErrRecord.reset : ErrRecord := { cur := 0, opcode := 0, need := 0, avail := 0 }

/-- The machine right after reset: the start of a pass (R33, R230) over the buffer that holds nothing,
with the parameters at their defaults. With `N = 0` the pass is `DONE` at once (R232). A pass over a
given binary starts with `startPass` (log entry 2). -/
def State.reset : State where
  buf := []
  n := 0
  base := Config.defaultBase
  rawMnemonic := Config.defaultRawMnemonic
  cur := 0
  status := .done
  err := ErrRecord.reset
  out := []

end Sys2Proof.Machine
end

