-- ==== Sys2Proof/Machine/Flags.lean ====
section
/-! DEFINITION. The block has no status flags and no condition codes (R31). This file holds the rules of its one
status register, the pass status: its numeric codes (R25), its value at the start of a pass (R33) and
its value after a decode step (R120). -/

namespace Sys2Proof.Machine

/-- The code of a pass status in the 2-bit register (R25). -/
def statusCode : PassStatus → BitVec 2
  | .running => 0
  | .done => 1
  | .truncated => 2
  | .reserved => 3

/-- The pass status a code stands for (R25). -/
def statusOfCode (c : BitVec 2) : PassStatus :=
  match c.toNat with
  | 0 => .running
  | 1 => .done
  | 2 => .truncated
  | _ => .reserved

/-- The status at the start of a pass over `n` bytes: `RUNNING` if `N > 0`, `DONE` if `N = 0` (R33). -/
def startStatus (n : Nat) : PassStatus := if n = 0 then .done else .running

/-- The status after the cursor has moved to `cur`: "if cur = N then status <- DONE" (R120). -/
def statusAt (cur n : Nat) (status : PassStatus) : PassStatus := if cur = n then .done else status

end Sys2Proof.Machine
end

