-- ==== Sys2Proof/Syntax.lean ====
section
/-! DEFINITION. The instructions the block classifies: the 56 mnemonics and the raw data byte (R80),
the 14 addressing modes (R62), and one constructor of `Instr` for each row of
spec/opcode_table.json. An operand byte is held as it stands in the buffer (R61): `b1` at `cur+1`,
`b2` at `cur+2`. -/

namespace Sys2Proof

/-- The 56 mnemonics of R80, and `raw` for the mnemonic text `RAW_MNEMONIC` of the raw data byte
(R78). -/
inductive Mnemonic where
  | adc | and | asl | bcc | bcs | beq | bit | bmi | bne | bpl | brk | bvc | bvs | clc | cld
  | cli | clv | cmp | cpx | cpy | dec | dex | dey | eor | inc | inx | iny | jmp | jsr | lda
  | ldx | ldy | lsr | nop | ora | pha | php | pla | plp | rol | ror | rti | rts | sbc | sec
  | sed | sei | sta | stx | sty | tax | tay | tsx | txa | txs | tya
  | raw
  deriving DecidableEq, Repr

/-- The addressing modes of the width table (R62). -/
inductive Mode where
  | imp  -- implied
  | acc  -- accumulator
  | raw  -- raw data byte
  | imm  -- immediate
  | zp  -- zero page
  | zpx  -- zero page indexed by X
  | zpy  -- zero page indexed by Y
  | rel  -- relative
  | izx  -- indexed indirect `(zp,X)`
  | izy  -- indirect indexed `(zp),Y`
  | abs  -- absolute
  | abx  -- absolute indexed by X
  | aby  -- absolute indexed by Y
  | ind  -- absolute indirect
  deriving DecidableEq, Repr

/-- One constructor for each row of spec/opcode_table.json: a mnemonic in an addressing mode, with the
operand bytes that mode reads (formats F1, F2, F3 of R60). -/
inductive Instr where
  -- Load and store (R130 to R135)
  | ldaIzx (b1 : Byte)
  | ldaZp (b1 : Byte)
  | ldaImm (b1 : Byte)
  | ldaAbs (b1 b2 : Byte)
  | ldaIzy (b1 : Byte)
  | ldaZpx (b1 : Byte)
  | ldaAby (b1 b2 : Byte)
  | ldaAbx (b1 b2 : Byte)
  | ldxImm (b1 : Byte)
  | ldxZp (b1 : Byte)
  | ldxAbs (b1 b2 : Byte)
  | ldxZpy (b1 : Byte)
  | ldxAby (b1 b2 : Byte)
  | ldyImm (b1 : Byte)
  | ldyZp (b1 : Byte)
  | ldyAbs (b1 b2 : Byte)
  | ldyZpx (b1 : Byte)
  | ldyAbx (b1 b2 : Byte)
  | staIzx (b1 : Byte)
  | staZp (b1 : Byte)
  | staAbs (b1 b2 : Byte)
  | staIzy (b1 : Byte)
  | staZpx (b1 : Byte)
  | staAby (b1 b2 : Byte)
  | staAbx (b1 b2 : Byte)
  | stxZp (b1 : Byte)
  | stxAbs (b1 b2 : Byte)
  | stxZpy (b1 : Byte)
  | styZp (b1 : Byte)
  | styAbs (b1 b2 : Byte)
  | styZpx (b1 : Byte)
  -- Register transfer and stack (R140 to R149)
  | tax
  | tay
  | tsx
  | txa
  | txs
  | tya
  | pha
  | php
  | pla
  | plp
  -- Arithmetic, logic, compare, increment and decrement (R150 to R164)
  | adcIzx (b1 : Byte)
  | adcZp (b1 : Byte)
  | adcImm (b1 : Byte)
  | adcAbs (b1 b2 : Byte)
  | adcIzy (b1 : Byte)
  | adcZpx (b1 : Byte)
  | adcAby (b1 b2 : Byte)
  | adcAbx (b1 b2 : Byte)
  | sbcIzx (b1 : Byte)
  | sbcZp (b1 : Byte)
  | sbcImm (b1 : Byte)
  | sbcAbs (b1 b2 : Byte)
  | sbcIzy (b1 : Byte)
  | sbcZpx (b1 : Byte)
  | sbcAby (b1 b2 : Byte)
  | sbcAbx (b1 b2 : Byte)
  | andIzx (b1 : Byte)
  | andZp (b1 : Byte)
  | andImm (b1 : Byte)
  | andAbs (b1 b2 : Byte)
  | andIzy (b1 : Byte)
  | andZpx (b1 : Byte)
  | andAby (b1 b2 : Byte)
  | andAbx (b1 b2 : Byte)
  | oraIzx (b1 : Byte)
  | oraZp (b1 : Byte)
  | oraImm (b1 : Byte)
  | oraAbs (b1 b2 : Byte)
  | oraIzy (b1 : Byte)
  | oraZpx (b1 : Byte)
  | oraAby (b1 b2 : Byte)
  | oraAbx (b1 b2 : Byte)
  | eorIzx (b1 : Byte)
  | eorZp (b1 : Byte)
  | eorImm (b1 : Byte)
  | eorAbs (b1 b2 : Byte)
  | eorIzy (b1 : Byte)
  | eorZpx (b1 : Byte)
  | eorAby (b1 b2 : Byte)
  | eorAbx (b1 b2 : Byte)
  | bitZp (b1 : Byte)
  | bitAbs (b1 b2 : Byte)
  | cmpIzx (b1 : Byte)
  | cmpZp (b1 : Byte)
  | cmpImm (b1 : Byte)
  | cmpAbs (b1 b2 : Byte)
  | cmpIzy (b1 : Byte)
  | cmpZpx (b1 : Byte)
  | cmpAby (b1 b2 : Byte)
  | cmpAbx (b1 b2 : Byte)
  | cpxImm (b1 : Byte)
  | cpxZp (b1 : Byte)
  | cpxAbs (b1 b2 : Byte)
  | cpyImm (b1 : Byte)
  | cpyZp (b1 : Byte)
  | cpyAbs (b1 b2 : Byte)
  | incZp (b1 : Byte)
  | incAbs (b1 b2 : Byte)
  | incZpx (b1 : Byte)
  | incAbx (b1 b2 : Byte)
  | decZp (b1 : Byte)
  | decAbs (b1 b2 : Byte)
  | decZpx (b1 : Byte)
  | decAbx (b1 b2 : Byte)
  | inx
  | iny
  | dex
  | dey
  -- Shift and rotate (R170 to R173)
  | aslZp (b1 : Byte)
  | aslAcc
  | aslAbs (b1 b2 : Byte)
  | aslZpx (b1 : Byte)
  | aslAbx (b1 b2 : Byte)
  | lsrZp (b1 : Byte)
  | lsrAcc
  | lsrAbs (b1 b2 : Byte)
  | lsrZpx (b1 : Byte)
  | lsrAbx (b1 b2 : Byte)
  | rolZp (b1 : Byte)
  | rolAcc
  | rolAbs (b1 b2 : Byte)
  | rolZpx (b1 : Byte)
  | rolAbx (b1 b2 : Byte)
  | rorZp (b1 : Byte)
  | rorAcc
  | rorAbs (b1 b2 : Byte)
  | rorZpx (b1 : Byte)
  | rorAbx (b1 b2 : Byte)
  -- Control transfer (R180 to R192)
  | jmpAbs (b1 b2 : Byte)
  | jmpInd (b1 b2 : Byte)
  | jsr (b1 b2 : Byte)
  | rts
  | rti
  | brk
  | bcc (b1 : Byte)
  | bcs (b1 : Byte)
  | beq (b1 : Byte)
  | bmi (b1 : Byte)
  | bne (b1 : Byte)
  | bpl (b1 : Byte)
  | bvc (b1 : Byte)
  | bvs (b1 : Byte)
  -- Flag and no-operation (R195 to R202)
  | clc
  | cld
  | cli
  | clv
  | sec
  | sed
  | sei
  | nop
  -- The raw data byte (R205): the undefined opcode byte itself
  | raw (op : Byte)
  deriving DecidableEq, Repr

end Sys2Proof
end

