-- ==== Sys2Proof/WellFormed.lean ====
section
/-! DEFINITION. Which instructions are well formed. Every operand byte is admitted in every mode (R61), so
the one check is that a raw data byte holds an opcode byte with no defined instruction (R90). -/

namespace Sys2Proof

/-- The 105 undefined byte values, in the order of R90. -/
def undefinedBytes : List Byte :=
  [0x02, 0x03, 0x04, 0x07, 0x0B, 0x0C, 0x0F, 0x12, 0x13, 0x14, 0x17, 0x1A, 0x1B, 0x1C, 0x1F] ++
  [0x22, 0x23, 0x27, 0x2B, 0x2F, 0x32, 0x33, 0x34, 0x37, 0x3A, 0x3B, 0x3C, 0x3F, 0x42, 0x43] ++
  [0x44, 0x47, 0x4B, 0x4F, 0x52, 0x53, 0x54, 0x57, 0x5A, 0x5B, 0x5C, 0x5F, 0x62, 0x63, 0x64] ++
  [0x67, 0x6B, 0x6F, 0x72, 0x73, 0x74, 0x77, 0x7A, 0x7B, 0x7C, 0x7F, 0x80, 0x82, 0x83, 0x87] ++
  [0x89, 0x8B, 0x8F, 0x92, 0x93, 0x97, 0x9B, 0x9C, 0x9E, 0x9F, 0xA3, 0xA7, 0xAB, 0xAF, 0xB2] ++
  [0xB3, 0xB7, 0xBB, 0xBF, 0xC2, 0xC3, 0xC7, 0xCB, 0xCF, 0xD2, 0xD3, 0xD4, 0xD7, 0xDA, 0xDB] ++
  [0xDC, 0xDF, 0xE2, 0xE3, 0xE7, 0xEB, 0xEF, 0xF2, 0xF3, 0xF4, 0xF7, 0xFA, 0xFB, 0xFC, 0xFF]

/-- A well-formed instruction: `raw op` only for an undefined byte `op` (R90, R205), every other
constructor with any operand bytes (R61). -/
def Instr.WellFormed (i : Instr) : Bool :=
  match i with
  | .ldaIzx _ | .ldaZp _ | .ldaImm _ | .ldaAbs _ _ | .ldaIzy _ | .ldaZpx _ | .ldaAby _ _
  | .ldaAbx _ _ => true
  | .ldxImm _ | .ldxZp _ | .ldxAbs _ _ | .ldxZpy _ | .ldxAby _ _ => true
  | .ldyImm _ | .ldyZp _ | .ldyAbs _ _ | .ldyZpx _ | .ldyAbx _ _ => true
  | .staIzx _ | .staZp _ | .staAbs _ _ | .staIzy _ | .staZpx _ | .staAby _ _ | .staAbx _ _ => true
  | .stxZp _ | .stxAbs _ _ | .stxZpy _ => true
  | .styZp _ | .styAbs _ _ | .styZpx _ => true
  | .tax => true
  | .tay => true
  | .tsx => true
  | .txa => true
  | .txs => true
  | .tya => true
  | .pha => true
  | .php => true
  | .pla => true
  | .plp => true
  | .adcIzx _ | .adcZp _ | .adcImm _ | .adcAbs _ _ | .adcIzy _ | .adcZpx _ | .adcAby _ _
  | .adcAbx _ _ => true
  | .sbcIzx _ | .sbcZp _ | .sbcImm _ | .sbcAbs _ _ | .sbcIzy _ | .sbcZpx _ | .sbcAby _ _
  | .sbcAbx _ _ => true
  | .andIzx _ | .andZp _ | .andImm _ | .andAbs _ _ | .andIzy _ | .andZpx _ | .andAby _ _
  | .andAbx _ _ => true
  | .oraIzx _ | .oraZp _ | .oraImm _ | .oraAbs _ _ | .oraIzy _ | .oraZpx _ | .oraAby _ _
  | .oraAbx _ _ => true
  | .eorIzx _ | .eorZp _ | .eorImm _ | .eorAbs _ _ | .eorIzy _ | .eorZpx _ | .eorAby _ _
  | .eorAbx _ _ => true
  | .bitZp _ | .bitAbs _ _ => true
  | .cmpIzx _ | .cmpZp _ | .cmpImm _ | .cmpAbs _ _ | .cmpIzy _ | .cmpZpx _ | .cmpAby _ _
  | .cmpAbx _ _ => true
  | .cpxImm _ | .cpxZp _ | .cpxAbs _ _ => true
  | .cpyImm _ | .cpyZp _ | .cpyAbs _ _ => true
  | .incZp _ | .incAbs _ _ | .incZpx _ | .incAbx _ _ => true
  | .decZp _ | .decAbs _ _ | .decZpx _ | .decAbx _ _ => true
  | .inx => true
  | .iny => true
  | .dex => true
  | .dey => true
  | .aslZp _ | .aslAcc | .aslAbs _ _ | .aslZpx _ | .aslAbx _ _ => true
  | .lsrZp _ | .lsrAcc | .lsrAbs _ _ | .lsrZpx _ | .lsrAbx _ _ => true
  | .rolZp _ | .rolAcc | .rolAbs _ _ | .rolZpx _ | .rolAbx _ _ => true
  | .rorZp _ | .rorAcc | .rorAbs _ _ | .rorZpx _ | .rorAbx _ _ => true
  | .jmpAbs _ _ | .jmpInd _ _ => true
  | .jsr _ _ => true
  | .rts => true
  | .rti => true
  | .brk => true
  | .bcc _ => true
  | .bcs _ => true
  | .beq _ => true
  | .bmi _ => true
  | .bne _ => true
  | .bpl _ => true
  | .bvc _ => true
  | .bvs _ => true
  | .clc => true
  | .cld => true
  | .cli => true
  | .clv => true
  | .sec => true
  | .sed => true
  | .sei => true
  | .nop => true
  | .raw op => undefinedBytes.contains op

end Sys2Proof
end

