-- ==== Sys2Proof/Decode.lean ====
section
/-! DEFINITION. The opcode classifier (R81, R82), the instruction-width lookup (R62), the decoder from bytes
to instructions and, after it, the encoder. The classifier's map and the decoder's map are two
transcriptions, of 30_encoding.md's rule R81 and of spec/opcode_table.json; Sys2Proof/Laws/Decode.lean
proves that they agree. -/

namespace Sys2Proof

/-! ## Instruction-width lookup -/

/-- The total function `LEN(mode)` of R62. -/
def Mode.len : Mode → Nat
  | .imp | .acc | .raw => 1
  | .imm | .zp | .zpx | .zpy | .rel | .izx | .izy => 2
  | .abs | .abx | .aby | .ind => 3

/-! ## Opcode classifier -/

/-- A cell of the opcode map: a mnemonic in a mode, or `none` for the dot of an undefined byte. -/
abbrev MapCell := Option (Mnemonic × Mode)

/-- Row 0x of the opcode map (R81). -/
def mapRow0 : List MapCell := [
  some (.brk, .imp), some (.ora, .izx), none, none, none, some (.ora, .zp), some (.asl, .zp),
  none, some (.php, .imp), some (.ora, .imm), some (.asl, .acc), none, none, some (.ora, .abs),
  some (.asl, .abs), none]

/-- Row 1x of the opcode map (R81). -/
def mapRow1 : List MapCell := [
  some (.bpl, .rel), some (.ora, .izy), none, none, none, some (.ora, .zpx), some (.asl, .zpx),
  none, some (.clc, .imp), some (.ora, .aby), none, none, none, some (.ora, .abx),
  some (.asl, .abx), none]

/-- Row 2x of the opcode map (R81). -/
def mapRow2 : List MapCell := [
  some (.jsr, .abs), some (.and, .izx), none, none, some (.bit, .zp), some (.and, .zp),
  some (.rol, .zp), none, some (.plp, .imp), some (.and, .imm), some (.rol, .acc), none,
  some (.bit, .abs), some (.and, .abs), some (.rol, .abs), none]

/-- Row 3x of the opcode map (R81). -/
def mapRow3 : List MapCell := [
  some (.bmi, .rel), some (.and, .izy), none, none, none, some (.and, .zpx), some (.rol, .zpx),
  none, some (.sec, .imp), some (.and, .aby), none, none, none, some (.and, .abx),
  some (.rol, .abx), none]

/-- Row 4x of the opcode map (R81). -/
def mapRow4 : List MapCell := [
  some (.rti, .imp), some (.eor, .izx), none, none, none, some (.eor, .zp), some (.lsr, .zp),
  none, some (.pha, .imp), some (.eor, .imm), some (.lsr, .acc), none, some (.jmp, .abs),
  some (.eor, .abs), some (.lsr, .abs), none]

/-- Row 5x of the opcode map (R81). -/
def mapRow5 : List MapCell := [
  some (.bvc, .rel), some (.eor, .izy), none, none, none, some (.eor, .zpx), some (.lsr, .zpx),
  none, some (.cli, .imp), some (.eor, .aby), none, none, none, some (.eor, .abx),
  some (.lsr, .abx), none]

/-- Row 6x of the opcode map (R81). -/
def mapRow6 : List MapCell := [
  some (.rts, .imp), some (.adc, .izx), none, none, none, some (.adc, .zp), some (.ror, .zp),
  none, some (.pla, .imp), some (.adc, .imm), some (.ror, .acc), none, some (.jmp, .ind),
  some (.adc, .abs), some (.ror, .abs), none]

/-- Row 7x of the opcode map (R81). -/
def mapRow7 : List MapCell := [
  some (.bvs, .rel), some (.adc, .izy), none, none, none, some (.adc, .zpx), some (.ror, .zpx),
  none, some (.sei, .imp), some (.adc, .aby), none, none, none, some (.adc, .abx),
  some (.ror, .abx), none]

/-- Row 8x of the opcode map (R81). -/
def mapRow8 : List MapCell := [
  none, some (.sta, .izx), none, none, some (.sty, .zp), some (.sta, .zp), some (.stx, .zp),
  none, some (.dey, .imp), none, some (.txa, .imp), none, some (.sty, .abs), some (.sta, .abs),
  some (.stx, .abs), none]

/-- Row 9x of the opcode map (R81). -/
def mapRow9 : List MapCell := [
  some (.bcc, .rel), some (.sta, .izy), none, none, some (.sty, .zpx), some (.sta, .zpx),
  some (.stx, .zpy), none, some (.tya, .imp), some (.sta, .aby), some (.txs, .imp), none, none,
  some (.sta, .abx), none, none]

/-- Row Ax of the opcode map (R81). -/
def mapRowA : List MapCell := [
  some (.ldy, .imm), some (.lda, .izx), some (.ldx, .imm), none, some (.ldy, .zp),
  some (.lda, .zp), some (.ldx, .zp), none, some (.tay, .imp), some (.lda, .imm),
  some (.tax, .imp), none, some (.ldy, .abs), some (.lda, .abs), some (.ldx, .abs), none]

/-- Row Bx of the opcode map (R81). -/
def mapRowB : List MapCell := [
  some (.bcs, .rel), some (.lda, .izy), none, none, some (.ldy, .zpx), some (.lda, .zpx),
  some (.ldx, .zpy), none, some (.clv, .imp), some (.lda, .aby), some (.tsx, .imp), none,
  some (.ldy, .abx), some (.lda, .abx), some (.ldx, .aby), none]

/-- Row Cx of the opcode map (R81). -/
def mapRowC : List MapCell := [
  some (.cpy, .imm), some (.cmp, .izx), none, none, some (.cpy, .zp), some (.cmp, .zp),
  some (.dec, .zp), none, some (.iny, .imp), some (.cmp, .imm), some (.dex, .imp), none,
  some (.cpy, .abs), some (.cmp, .abs), some (.dec, .abs), none]

/-- Row Dx of the opcode map (R81). -/
def mapRowD : List MapCell := [
  some (.bne, .rel), some (.cmp, .izy), none, none, none, some (.cmp, .zpx), some (.dec, .zpx),
  none, some (.cld, .imp), some (.cmp, .aby), none, none, none, some (.cmp, .abx),
  some (.dec, .abx), none]

/-- Row Ex of the opcode map (R81). -/
def mapRowE : List MapCell := [
  some (.cpx, .imm), some (.sbc, .izx), none, none, some (.cpx, .zp), some (.sbc, .zp),
  some (.inc, .zp), none, some (.inx, .imp), some (.sbc, .imm), some (.nop, .imp), none,
  some (.cpx, .abs), some (.sbc, .abs), some (.inc, .abs), none]

/-- Row Fx of the opcode map (R81). -/
def mapRowF : List MapCell := [
  some (.beq, .rel), some (.sbc, .izy), none, none, none, some (.sbc, .zpx), some (.inc, .zpx),
  none, some (.sed, .imp), some (.sbc, .aby), none, none, none, some (.sbc, .abx),
  some (.inc, .abx), none]

/-- The opcode map of R81: row = high hex digit, column = low hex digit. -/
def opcodeMap : List (List MapCell) :=
  [mapRow0, mapRow1, mapRow2, mapRow3, mapRow4, mapRow5, mapRow6, mapRow7] ++
  [mapRow8, mapRow9, mapRowA, mapRowB, mapRowC, mapRowD, mapRowE, mapRowF]

/-- `CLASS : byte → (mnemonic, mode)`, total: the opcode map for a defined byte, `(RAW_MNEMONIC, raw)`
for every other (R82, R90). -/
def classify (op : Byte) : Mnemonic × Mode :=
  match (opcodeMap.getD (op.toNat / 16) []).getD (op.toNat % 16) none with
  | some c => c
  | none => (.raw, .raw)

/-- The length of an opcode, `LEN(mode(op))` (R62, R103). -/
def lenOf (op : Byte) : Nat := (classify op).2.len

/-! ## Decoder -/

/-- What an opcode byte still needs to become an instruction: nothing, one operand byte, two operand
bytes (formats F1, F2, F3 of R60), or nothing and no defined instruction (R90). -/
inductive Shape where
  | bare (i : Instr)
  | one (f : Byte → Instr)
  | two (f : Byte → Byte → Instr)
  | undefined

/-- The rows of spec/opcode_table.json with match 0x00 to 0x0F, in order. -/
def tableRow0 : List Shape := [
  .bare .brk, .one .oraIzx, .undefined, .undefined, .undefined, .one .oraZp, .one .aslZp,
  .undefined, .bare .php, .one .oraImm, .bare .aslAcc, .undefined, .undefined, .two .oraAbs,
  .two .aslAbs, .undefined]

/-- The rows of spec/opcode_table.json with match 0x10 to 0x1F, in order. -/
def tableRow1 : List Shape := [
  .one .bpl, .one .oraIzy, .undefined, .undefined, .undefined, .one .oraZpx, .one .aslZpx,
  .undefined, .bare .clc, .two .oraAby, .undefined, .undefined, .undefined, .two .oraAbx,
  .two .aslAbx, .undefined]

/-- The rows of spec/opcode_table.json with match 0x20 to 0x2F, in order. -/
def tableRow2 : List Shape := [
  .two .jsr, .one .andIzx, .undefined, .undefined, .one .bitZp, .one .andZp, .one .rolZp,
  .undefined, .bare .plp, .one .andImm, .bare .rolAcc, .undefined, .two .bitAbs, .two .andAbs,
  .two .rolAbs, .undefined]

/-- The rows of spec/opcode_table.json with match 0x30 to 0x3F, in order. -/
def tableRow3 : List Shape := [
  .one .bmi, .one .andIzy, .undefined, .undefined, .undefined, .one .andZpx, .one .rolZpx,
  .undefined, .bare .sec, .two .andAby, .undefined, .undefined, .undefined, .two .andAbx,
  .two .rolAbx, .undefined]

/-- The rows of spec/opcode_table.json with match 0x40 to 0x4F, in order. -/
def tableRow4 : List Shape := [
  .bare .rti, .one .eorIzx, .undefined, .undefined, .undefined, .one .eorZp, .one .lsrZp,
  .undefined, .bare .pha, .one .eorImm, .bare .lsrAcc, .undefined, .two .jmpAbs, .two .eorAbs,
  .two .lsrAbs, .undefined]

/-- The rows of spec/opcode_table.json with match 0x50 to 0x5F, in order. -/
def tableRow5 : List Shape := [
  .one .bvc, .one .eorIzy, .undefined, .undefined, .undefined, .one .eorZpx, .one .lsrZpx,
  .undefined, .bare .cli, .two .eorAby, .undefined, .undefined, .undefined, .two .eorAbx,
  .two .lsrAbx, .undefined]

/-- The rows of spec/opcode_table.json with match 0x60 to 0x6F, in order. -/
def tableRow6 : List Shape := [
  .bare .rts, .one .adcIzx, .undefined, .undefined, .undefined, .one .adcZp, .one .rorZp,
  .undefined, .bare .pla, .one .adcImm, .bare .rorAcc, .undefined, .two .jmpInd, .two .adcAbs,
  .two .rorAbs, .undefined]

/-- The rows of spec/opcode_table.json with match 0x70 to 0x7F, in order. -/
def tableRow7 : List Shape := [
  .one .bvs, .one .adcIzy, .undefined, .undefined, .undefined, .one .adcZpx, .one .rorZpx,
  .undefined, .bare .sei, .two .adcAby, .undefined, .undefined, .undefined, .two .adcAbx,
  .two .rorAbx, .undefined]

/-- The rows of spec/opcode_table.json with match 0x80 to 0x8F, in order. -/
def tableRow8 : List Shape := [
  .undefined, .one .staIzx, .undefined, .undefined, .one .styZp, .one .staZp, .one .stxZp,
  .undefined, .bare .dey, .undefined, .bare .txa, .undefined, .two .styAbs, .two .staAbs,
  .two .stxAbs, .undefined]

/-- The rows of spec/opcode_table.json with match 0x90 to 0x9F, in order. -/
def tableRow9 : List Shape := [
  .one .bcc, .one .staIzy, .undefined, .undefined, .one .styZpx, .one .staZpx, .one .stxZpy,
  .undefined, .bare .tya, .two .staAby, .bare .txs, .undefined, .undefined, .two .staAbx,
  .undefined, .undefined]

/-- The rows of spec/opcode_table.json with match 0xA0 to 0xAF, in order. -/
def tableRowA : List Shape := [
  .one .ldyImm, .one .ldaIzx, .one .ldxImm, .undefined, .one .ldyZp, .one .ldaZp, .one .ldxZp,
  .undefined, .bare .tay, .one .ldaImm, .bare .tax, .undefined, .two .ldyAbs, .two .ldaAbs,
  .two .ldxAbs, .undefined]

/-- The rows of spec/opcode_table.json with match 0xB0 to 0xBF, in order. -/
def tableRowB : List Shape := [
  .one .bcs, .one .ldaIzy, .undefined, .undefined, .one .ldyZpx, .one .ldaZpx, .one .ldxZpy,
  .undefined, .bare .clv, .two .ldaAby, .bare .tsx, .undefined, .two .ldyAbx, .two .ldaAbx,
  .two .ldxAby, .undefined]

/-- The rows of spec/opcode_table.json with match 0xC0 to 0xCF, in order. -/
def tableRowC : List Shape := [
  .one .cpyImm, .one .cmpIzx, .undefined, .undefined, .one .cpyZp, .one .cmpZp, .one .decZp,
  .undefined, .bare .iny, .one .cmpImm, .bare .dex, .undefined, .two .cpyAbs, .two .cmpAbs,
  .two .decAbs, .undefined]

/-- The rows of spec/opcode_table.json with match 0xD0 to 0xDF, in order. -/
def tableRowD : List Shape := [
  .one .bne, .one .cmpIzy, .undefined, .undefined, .undefined, .one .cmpZpx, .one .decZpx,
  .undefined, .bare .cld, .two .cmpAby, .undefined, .undefined, .undefined, .two .cmpAbx,
  .two .decAbx, .undefined]

/-- The rows of spec/opcode_table.json with match 0xE0 to 0xEF, in order. -/
def tableRowE : List Shape := [
  .one .cpxImm, .one .sbcIzx, .undefined, .undefined, .one .cpxZp, .one .sbcZp, .one .incZp,
  .undefined, .bare .inx, .one .sbcImm, .bare .nop, .undefined, .two .cpxAbs, .two .sbcAbs,
  .two .incAbs, .undefined]

/-- The rows of spec/opcode_table.json with match 0xF0 to 0xFF, in order. -/
def tableRowF : List Shape := [
  .one .beq, .one .sbcIzy, .undefined, .undefined, .undefined, .one .sbcZpx, .one .incZpx,
  .undefined, .bare .sed, .two .sbcAby, .undefined, .undefined, .undefined, .two .sbcAbx,
  .two .incAbx, .undefined]

/-- spec/opcode_table.json by opcode byte. -/
def opcodeTable : List (List Shape) :=
  [tableRow0, tableRow1, tableRow2, tableRow3, tableRow4, tableRow5, tableRow6, tableRow7] ++
  [tableRow8, tableRow9, tableRowA, tableRowB, tableRowC, tableRowD, tableRowE, tableRowF]

/-- The table's row for an opcode byte. -/
def shapeOf (op : Byte) : Shape :=
  (opcodeTable.getD (op.toNat / 16) []).getD (op.toNat % 16) .undefined

/-- Why bytes are not an instruction: there is no opcode byte (R100), or the operand bytes are missing
(R104). No opcode byte is refused (R90). -/
inductive DecodeError where
  | noOpcode
  | truncated (op : Byte) (need avail : Nat)
  deriving DecidableEq, Repr

/-- The decoder: the instruction at the head of the bytes and the bytes after it, total on any bytes.
An undefined byte is a raw data byte of length 1 (R205, R207). -/
def decode : List Byte → Except DecodeError (Instr × List Byte)
  | [] => .error .noOpcode
  | op :: rest =>
    match shapeOf op, rest with
    | .bare i, rest => .ok (i, rest)
    | .one f, b1 :: rest => .ok (f b1, rest)
    | .two f, b1 :: b2 :: rest => .ok (f b1 b2, rest)
    | .undefined, rest => .ok (.raw op, rest)
    | _, rest => .error (.truncated op (lenOf op) (rest.length + 1))

/-- The decoder applied to an instruction given as the number `w`, bit 0 the least significant bit of
the opcode byte (R60); every bit from `nbits` up is taken as 0. The bytes lie in buffer order. -/
def decodeTableWord (nbits w : Nat) : Option Instr :=
  let v := w % 2 ^ nbits
  match decode [BitVec.ofNat 8 v, BitVec.ofNat 8 (v / 2 ^ 8), BitVec.ofNat 8 (v / 2 ^ 16)] with
  | .ok (i, _) => some i
  | .error _ => none

/-! ## Encoder and the fields of an instruction -/

/-- The bytes of an instruction in buffer order: opcode, first operand byte, second operand byte
(formats F1, F2, F3 of R60; opcode values from the rules R130 to R205). -/
def encode (i : Instr) : List Byte :=
  match i with
  | .ldaIzx b1 => [0xA1, b1]
  | .ldaZp b1 => [0xA5, b1]
  | .ldaImm b1 => [0xA9, b1]
  | .ldaAbs b1 b2 => [0xAD, b1, b2]
  | .ldaIzy b1 => [0xB1, b1]
  | .ldaZpx b1 => [0xB5, b1]
  | .ldaAby b1 b2 => [0xB9, b1, b2]
  | .ldaAbx b1 b2 => [0xBD, b1, b2]
  | .ldxImm b1 => [0xA2, b1]
  | .ldxZp b1 => [0xA6, b1]
  | .ldxAbs b1 b2 => [0xAE, b1, b2]
  | .ldxZpy b1 => [0xB6, b1]
  | .ldxAby b1 b2 => [0xBE, b1, b2]
  | .ldyImm b1 => [0xA0, b1]
  | .ldyZp b1 => [0xA4, b1]
  | .ldyAbs b1 b2 => [0xAC, b1, b2]
  | .ldyZpx b1 => [0xB4, b1]
  | .ldyAbx b1 b2 => [0xBC, b1, b2]
  | .staIzx b1 => [0x81, b1]
  | .staZp b1 => [0x85, b1]
  | .staAbs b1 b2 => [0x8D, b1, b2]
  | .staIzy b1 => [0x91, b1]
  | .staZpx b1 => [0x95, b1]
  | .staAby b1 b2 => [0x99, b1, b2]
  | .staAbx b1 b2 => [0x9D, b1, b2]
  | .stxZp b1 => [0x86, b1]
  | .stxAbs b1 b2 => [0x8E, b1, b2]
  | .stxZpy b1 => [0x96, b1]
  | .styZp b1 => [0x84, b1]
  | .styAbs b1 b2 => [0x8C, b1, b2]
  | .styZpx b1 => [0x94, b1]
  | .tax => [0xAA]
  | .tay => [0xA8]
  | .tsx => [0xBA]
  | .txa => [0x8A]
  | .txs => [0x9A]
  | .tya => [0x98]
  | .pha => [0x48]
  | .php => [0x08]
  | .pla => [0x68]
  | .plp => [0x28]
  | .adcIzx b1 => [0x61, b1]
  | .adcZp b1 => [0x65, b1]
  | .adcImm b1 => [0x69, b1]
  | .adcAbs b1 b2 => [0x6D, b1, b2]
  | .adcIzy b1 => [0x71, b1]
  | .adcZpx b1 => [0x75, b1]
  | .adcAby b1 b2 => [0x79, b1, b2]
  | .adcAbx b1 b2 => [0x7D, b1, b2]
  | .sbcIzx b1 => [0xE1, b1]
  | .sbcZp b1 => [0xE5, b1]
  | .sbcImm b1 => [0xE9, b1]
  | .sbcAbs b1 b2 => [0xED, b1, b2]
  | .sbcIzy b1 => [0xF1, b1]
  | .sbcZpx b1 => [0xF5, b1]
  | .sbcAby b1 b2 => [0xF9, b1, b2]
  | .sbcAbx b1 b2 => [0xFD, b1, b2]
  | .andIzx b1 => [0x21, b1]
  | .andZp b1 => [0x25, b1]
  | .andImm b1 => [0x29, b1]
  | .andAbs b1 b2 => [0x2D, b1, b2]
  | .andIzy b1 => [0x31, b1]
  | .andZpx b1 => [0x35, b1]
  | .andAby b1 b2 => [0x39, b1, b2]
  | .andAbx b1 b2 => [0x3D, b1, b2]
  | .oraIzx b1 => [0x01, b1]
  | .oraZp b1 => [0x05, b1]
  | .oraImm b1 => [0x09, b1]
  | .oraAbs b1 b2 => [0x0D, b1, b2]
  | .oraIzy b1 => [0x11, b1]
  | .oraZpx b1 => [0x15, b1]
  | .oraAby b1 b2 => [0x19, b1, b2]
  | .oraAbx b1 b2 => [0x1D, b1, b2]
  | .eorIzx b1 => [0x41, b1]
  | .eorZp b1 => [0x45, b1]
  | .eorImm b1 => [0x49, b1]
  | .eorAbs b1 b2 => [0x4D, b1, b2]
  | .eorIzy b1 => [0x51, b1]
  | .eorZpx b1 => [0x55, b1]
  | .eorAby b1 b2 => [0x59, b1, b2]
  | .eorAbx b1 b2 => [0x5D, b1, b2]
  | .bitZp b1 => [0x24, b1]
  | .bitAbs b1 b2 => [0x2C, b1, b2]
  | .cmpIzx b1 => [0xC1, b1]
  | .cmpZp b1 => [0xC5, b1]
  | .cmpImm b1 => [0xC9, b1]
  | .cmpAbs b1 b2 => [0xCD, b1, b2]
  | .cmpIzy b1 => [0xD1, b1]
  | .cmpZpx b1 => [0xD5, b1]
  | .cmpAby b1 b2 => [0xD9, b1, b2]
  | .cmpAbx b1 b2 => [0xDD, b1, b2]
  | .cpxImm b1 => [0xE0, b1]
  | .cpxZp b1 => [0xE4, b1]
  | .cpxAbs b1 b2 => [0xEC, b1, b2]
  | .cpyImm b1 => [0xC0, b1]
  | .cpyZp b1 => [0xC4, b1]
  | .cpyAbs b1 b2 => [0xCC, b1, b2]
  | .incZp b1 => [0xE6, b1]
  | .incAbs b1 b2 => [0xEE, b1, b2]
  | .incZpx b1 => [0xF6, b1]
  | .incAbx b1 b2 => [0xFE, b1, b2]
  | .decZp b1 => [0xC6, b1]
  | .decAbs b1 b2 => [0xCE, b1, b2]
  | .decZpx b1 => [0xD6, b1]
  | .decAbx b1 b2 => [0xDE, b1, b2]
  | .inx => [0xE8]
  | .iny => [0xC8]
  | .dex => [0xCA]
  | .dey => [0x88]
  | .aslZp b1 => [0x06, b1]
  | .aslAcc => [0x0A]
  | .aslAbs b1 b2 => [0x0E, b1, b2]
  | .aslZpx b1 => [0x16, b1]
  | .aslAbx b1 b2 => [0x1E, b1, b2]
  | .lsrZp b1 => [0x46, b1]
  | .lsrAcc => [0x4A]
  | .lsrAbs b1 b2 => [0x4E, b1, b2]
  | .lsrZpx b1 => [0x56, b1]
  | .lsrAbx b1 b2 => [0x5E, b1, b2]
  | .rolZp b1 => [0x26, b1]
  | .rolAcc => [0x2A]
  | .rolAbs b1 b2 => [0x2E, b1, b2]
  | .rolZpx b1 => [0x36, b1]
  | .rolAbx b1 b2 => [0x3E, b1, b2]
  | .rorZp b1 => [0x66, b1]
  | .rorAcc => [0x6A]
  | .rorAbs b1 b2 => [0x6E, b1, b2]
  | .rorZpx b1 => [0x76, b1]
  | .rorAbx b1 b2 => [0x7E, b1, b2]
  | .jmpAbs b1 b2 => [0x4C, b1, b2]
  | .jmpInd b1 b2 => [0x6C, b1, b2]
  | .jsr b1 b2 => [0x20, b1, b2]
  | .rts => [0x60]
  | .rti => [0x40]
  | .brk => [0x00]
  | .bcc b1 => [0x90, b1]
  | .bcs b1 => [0xB0, b1]
  | .beq b1 => [0xF0, b1]
  | .bmi b1 => [0x30, b1]
  | .bne b1 => [0xD0, b1]
  | .bpl b1 => [0x10, b1]
  | .bvc b1 => [0x50, b1]
  | .bvs b1 => [0x70, b1]
  | .clc => [0x18]
  | .cld => [0xD8]
  | .cli => [0x58]
  | .clv => [0xB8]
  | .sec => [0x38]
  | .sed => [0xF8]
  | .sei => [0x78]
  | .nop => [0xEA]
  | .raw op => [op]

/-- The mnemonic of an instruction (R80). -/
def Instr.mnemonic (i : Instr) : Mnemonic :=
  match i with
  | .ldaIzx _ | .ldaZp _ | .ldaImm _ | .ldaAbs _ _ | .ldaIzy _ | .ldaZpx _ | .ldaAby _ _
  | .ldaAbx _ _ => .lda
  | .ldxImm _ | .ldxZp _ | .ldxAbs _ _ | .ldxZpy _ | .ldxAby _ _ => .ldx
  | .ldyImm _ | .ldyZp _ | .ldyAbs _ _ | .ldyZpx _ | .ldyAbx _ _ => .ldy
  | .staIzx _ | .staZp _ | .staAbs _ _ | .staIzy _ | .staZpx _ | .staAby _ _ | .staAbx _ _ => .sta
  | .stxZp _ | .stxAbs _ _ | .stxZpy _ => .stx
  | .styZp _ | .styAbs _ _ | .styZpx _ => .sty
  | .tax => .tax
  | .tay => .tay
  | .tsx => .tsx
  | .txa => .txa
  | .txs => .txs
  | .tya => .tya
  | .pha => .pha
  | .php => .php
  | .pla => .pla
  | .plp => .plp
  | .adcIzx _ | .adcZp _ | .adcImm _ | .adcAbs _ _ | .adcIzy _ | .adcZpx _ | .adcAby _ _
  | .adcAbx _ _ => .adc
  | .sbcIzx _ | .sbcZp _ | .sbcImm _ | .sbcAbs _ _ | .sbcIzy _ | .sbcZpx _ | .sbcAby _ _
  | .sbcAbx _ _ => .sbc
  | .andIzx _ | .andZp _ | .andImm _ | .andAbs _ _ | .andIzy _ | .andZpx _ | .andAby _ _
  | .andAbx _ _ => .and
  | .oraIzx _ | .oraZp _ | .oraImm _ | .oraAbs _ _ | .oraIzy _ | .oraZpx _ | .oraAby _ _
  | .oraAbx _ _ => .ora
  | .eorIzx _ | .eorZp _ | .eorImm _ | .eorAbs _ _ | .eorIzy _ | .eorZpx _ | .eorAby _ _
  | .eorAbx _ _ => .eor
  | .bitZp _ | .bitAbs _ _ => .bit
  | .cmpIzx _ | .cmpZp _ | .cmpImm _ | .cmpAbs _ _ | .cmpIzy _ | .cmpZpx _ | .cmpAby _ _
  | .cmpAbx _ _ => .cmp
  | .cpxImm _ | .cpxZp _ | .cpxAbs _ _ => .cpx
  | .cpyImm _ | .cpyZp _ | .cpyAbs _ _ => .cpy
  | .incZp _ | .incAbs _ _ | .incZpx _ | .incAbx _ _ => .inc
  | .decZp _ | .decAbs _ _ | .decZpx _ | .decAbx _ _ => .dec
  | .inx => .inx
  | .iny => .iny
  | .dex => .dex
  | .dey => .dey
  | .aslZp _ | .aslAcc | .aslAbs _ _ | .aslZpx _ | .aslAbx _ _ => .asl
  | .lsrZp _ | .lsrAcc | .lsrAbs _ _ | .lsrZpx _ | .lsrAbx _ _ => .lsr
  | .rolZp _ | .rolAcc | .rolAbs _ _ | .rolZpx _ | .rolAbx _ _ => .rol
  | .rorZp _ | .rorAcc | .rorAbs _ _ | .rorZpx _ | .rorAbx _ _ => .ror
  | .jmpAbs _ _ | .jmpInd _ _ => .jmp
  | .jsr _ _ => .jsr
  | .rts => .rts
  | .rti => .rti
  | .brk => .brk
  | .bcc _ => .bcc
  | .bcs _ => .bcs
  | .beq _ => .beq
  | .bmi _ => .bmi
  | .bne _ => .bne
  | .bpl _ => .bpl
  | .bvc _ => .bvc
  | .bvs _ => .bvs
  | .clc => .clc
  | .cld => .cld
  | .cli => .cli
  | .clv => .clv
  | .sec => .sec
  | .sed => .sed
  | .sei => .sei
  | .nop => .nop
  | .raw _ => .raw

/-- The addressing mode of an instruction (R62). -/
def Instr.mode (i : Instr) : Mode :=
  match i with
  | .tax | .tay | .tsx | .txa | .txs | .tya | .pha | .php | .pla | .plp | .inx | .iny | .dex
  | .dey | .rts | .rti | .brk | .clc | .cld | .cli | .clv | .sec | .sed | .sei | .nop => .imp
  | .aslAcc | .lsrAcc | .rolAcc | .rorAcc => .acc
  | .ldaImm _ | .ldxImm _ | .ldyImm _ | .adcImm _ | .sbcImm _ | .andImm _ | .oraImm _
  | .eorImm _ | .cmpImm _ | .cpxImm _ | .cpyImm _ => .imm
  | .ldaZp _ | .ldxZp _ | .ldyZp _ | .staZp _ | .stxZp _ | .styZp _ | .adcZp _ | .sbcZp _
  | .andZp _ | .oraZp _ | .eorZp _ | .bitZp _ | .cmpZp _ | .cpxZp _ | .cpyZp _ | .incZp _
  | .decZp _ | .aslZp _ | .lsrZp _ | .rolZp _ | .rorZp _ => .zp
  | .ldaZpx _ | .ldyZpx _ | .staZpx _ | .styZpx _ | .adcZpx _ | .sbcZpx _ | .andZpx _
  | .oraZpx _ | .eorZpx _ | .cmpZpx _ | .incZpx _ | .decZpx _ | .aslZpx _ | .lsrZpx _
  | .rolZpx _ | .rorZpx _ => .zpx
  | .ldxZpy _ | .stxZpy _ => .zpy
  | .bcc _ | .bcs _ | .beq _ | .bmi _ | .bne _ | .bpl _ | .bvc _ | .bvs _ => .rel
  | .ldaIzx _ | .staIzx _ | .adcIzx _ | .sbcIzx _ | .andIzx _ | .oraIzx _ | .eorIzx _
  | .cmpIzx _ => .izx
  | .ldaIzy _ | .staIzy _ | .adcIzy _ | .sbcIzy _ | .andIzy _ | .oraIzy _ | .eorIzy _
  | .cmpIzy _ => .izy
  | .ldaAbs _ _ | .ldxAbs _ _ | .ldyAbs _ _ | .staAbs _ _ | .stxAbs _ _ | .styAbs _ _
  | .adcAbs _ _ | .sbcAbs _ _ | .andAbs _ _ | .oraAbs _ _ | .eorAbs _ _ | .bitAbs _ _
  | .cmpAbs _ _ | .cpxAbs _ _ | .cpyAbs _ _ | .incAbs _ _ | .decAbs _ _ | .aslAbs _ _
  | .lsrAbs _ _ | .rolAbs _ _ | .rorAbs _ _ | .jmpAbs _ _ | .jsr _ _ => .abs
  | .ldaAbx _ _ | .ldyAbx _ _ | .staAbx _ _ | .adcAbx _ _ | .sbcAbx _ _ | .andAbx _ _
  | .oraAbx _ _ | .eorAbx _ _ | .cmpAbx _ _ | .incAbx _ _ | .decAbx _ _ | .aslAbx _ _
  | .lsrAbx _ _ | .rolAbx _ _ | .rorAbx _ _ => .abx
  | .ldaAby _ _ | .ldxAby _ _ | .staAby _ _ | .adcAby _ _ | .sbcAby _ _ | .andAby _ _
  | .oraAby _ _ | .eorAby _ _ | .cmpAby _ _ => .aby
  | .jmpInd _ _ => .ind
  | .raw _ => .raw

/-- The length of an instruction in bytes (R62). -/
def Instr.len (i : Instr) : Nat := i.mode.len

end Sys2Proof
end

