-- ==== Sys2Proof/Machine/Operands.lean ====
section
/-! DEFINITION. The numbers and the text of a line: hexadecimal spelling (R11), the signed reading of a
displacement (R10), the displayed address (R45), the branch target (R110), the operand text of every
mode (R65 to R78), and the line itself (R106 to R111). -/

namespace Sys2Proof.Machine

/-! ## Numbers -/

/-- The two's-complement reading of a byte, -128 to 127 (R10). -/
def sext8 (b : Byte) : Int :=
  if b.toNat < 0x80 then b.toNat else b.toNat - 256

/-- `hi:lo`, the 16-bit value of two operand bytes, `b2` high (R10, R44). -/
def operand16 (b2 b1 : Byte) : Addr := BitVec.ofNat 16 (b2.toNat * 256 + b1.toNat)

/-- `disp(c) = (BASE + c) mod 2^16` (R45). -/
def dispAddr (base : Addr) (c : Nat) : Addr := BitVec.ofNat 16 (base.toNat + c)

/-- `(BASE + cur + len + sext_8(b1)) mod 2^16`, the sum over the integers (R110). -/
def branchTarget (base : Addr) (cur len : Nat) (b1 : Byte) : Addr :=
  BitVec.ofInt 16 (base.toNat + cur + len + sext8 b1)

/-! ## Hexadecimal spelling -/

/-- One digit, `0-9` and `A-F` (R11). -/
def hexDigit (d : BitVec 4) : Char :=
  if d.toNat < 10 then Char.ofNat (0x30 + d.toNat) else Char.ofNat (0x41 + (d.toNat - 10))

/-- `hex2(b)`, most significant digit first (R11). -/
def hex2 (b : Byte) : Text := [hexDigit (b.extractLsb' 4 4), hexDigit (b.extractLsb' 0 4)]

/-- `hex4(v)`, most significant digit first (R11). -/
def hex4 (v : Addr) : Text := hex2 (v.extractLsb' 8 8) ++ hex2 (v.extractLsb' 0 8)

/-- The digits of an operand byte, where the instruction has that byte. -/
def hexOperand : Option Byte → Text
  | some b => hex2 b
  | none => []

/-! ## Mnemonic and operand text -/

/-- The text of a mnemonic: three capital letters (R80), and `RAW_MNEMONIC` for the raw data byte (R78). -/
def mnemonicText (rawMnemonic : Text) (mn : Mnemonic) : Text :=
  match mn with
  | .adc => ['A', 'D', 'C']
  | .and => ['A', 'N', 'D']
  | .asl => ['A', 'S', 'L']
  | .bcc => ['B', 'C', 'C']
  | .bcs => ['B', 'C', 'S']
  | .beq => ['B', 'E', 'Q']
  | .bit => ['B', 'I', 'T']
  | .bmi => ['B', 'M', 'I']
  | .bne => ['B', 'N', 'E']
  | .bpl => ['B', 'P', 'L']
  | .brk => ['B', 'R', 'K']
  | .bvc => ['B', 'V', 'C']
  | .bvs => ['B', 'V', 'S']
  | .clc => ['C', 'L', 'C']
  | .cld => ['C', 'L', 'D']
  | .cli => ['C', 'L', 'I']
  | .clv => ['C', 'L', 'V']
  | .cmp => ['C', 'M', 'P']
  | .cpx => ['C', 'P', 'X']
  | .cpy => ['C', 'P', 'Y']
  | .dec => ['D', 'E', 'C']
  | .dex => ['D', 'E', 'X']
  | .dey => ['D', 'E', 'Y']
  | .eor => ['E', 'O', 'R']
  | .inc => ['I', 'N', 'C']
  | .inx => ['I', 'N', 'X']
  | .iny => ['I', 'N', 'Y']
  | .jmp => ['J', 'M', 'P']
  | .jsr => ['J', 'S', 'R']
  | .lda => ['L', 'D', 'A']
  | .ldx => ['L', 'D', 'X']
  | .ldy => ['L', 'D', 'Y']
  | .lsr => ['L', 'S', 'R']
  | .nop => ['N', 'O', 'P']
  | .ora => ['O', 'R', 'A']
  | .pha => ['P', 'H', 'A']
  | .php => ['P', 'H', 'P']
  | .pla => ['P', 'L', 'A']
  | .plp => ['P', 'L', 'P']
  | .rol => ['R', 'O', 'L']
  | .ror => ['R', 'O', 'R']
  | .rti => ['R', 'T', 'I']
  | .rts => ['R', 'T', 'S']
  | .sbc => ['S', 'B', 'C']
  | .sec => ['S', 'E', 'C']
  | .sed => ['S', 'E', 'D']
  | .sei => ['S', 'E', 'I']
  | .sta => ['S', 'T', 'A']
  | .stx => ['S', 'T', 'X']
  | .sty => ['S', 'T', 'Y']
  | .tax => ['T', 'A', 'X']
  | .tay => ['T', 'A', 'Y']
  | .tsx => ['T', 'S', 'X']
  | .txa => ['T', 'X', 'A']
  | .txs => ['T', 'X', 'S']
  | .tya => ['T', 'Y', 'A']
  | .raw => rawMnemonic

/-- `OPTEXT(mode, op, b1, b2)` (R65 to R78, R113). A mode of length 1 has neither operand byte, a mode of
length 2 has `b1` only (R113: "none"). -/
def opText (mode : Mode) (op : Byte) (b1 b2 : Option Byte) : Text :=
  match mode with
  | .imp => []
  | .acc => []
  | .imm => ['#', '$'] ++ hexOperand b1
  | .zp => ['$'] ++ hexOperand b1
  | .zpx => ['$'] ++ hexOperand b1 ++ [',', 'X']
  | .zpy => ['$'] ++ hexOperand b1 ++ [',', 'Y']
  | .rel => ['$'] ++ hexOperand b1
  | .izx => ['(', '$'] ++ hexOperand b1 ++ [',', 'X', ')']
  | .izy => ['(', '$'] ++ hexOperand b1 ++ [')', ',', 'Y']
  | .abs => ['$'] ++ hexOperand b2 ++ hexOperand b1
  | .abx => ['$'] ++ hexOperand b2 ++ hexOperand b1 ++ [',', 'X']
  | .aby => ['$'] ++ hexOperand b2 ++ hexOperand b1 ++ [',', 'Y']
  | .ind => ['(', '$'] ++ hexOperand b2 ++ hexOperand b1 ++ [')']
  | .raw => ['$'] ++ hex2 op

/-- Assembly text: the mnemonic alone when the operand text is empty, else one space between (R79, R108). -/
def asmText (mn opnd : Text) : Text :=
  if opnd = [] then mn else mn ++ [' '] ++ opnd

/-! ## The line -/

/-- A byte slot: two digits, or two spaces for a byte the instruction does not have (R106). -/
def byteSlot : Option Byte → Text
  | some b => hex2 b
  | none => [' ', ' ']

/-- The branch annotation: two TABs, `; $` and the target for mode `rel`, empty for every other (R111). -/
def annotation (base : Addr) (cur : Nat) (mode : Mode) (b1 : Option Byte) : Text :=
  match mode, b1 with
  | .rel, some b => ['\t', '\t', ';', ' ', '$'] ++ hex4 (branchTarget base cur mode.len b)
  | _, _ => []

/-- The line of an instruction at cursor `cur` (R106 to R109):
`a ++ " " ++ s0 ++ " " ++ s1 ++ " " ++ s2 ++ " " ++ asm ++ ann`. -/
def formatLine (base : Addr) (rawMnemonic : Text) (cur : Nat) (mn : Mnemonic) (mode : Mode) (op : Byte)
    (b1 b2 : Option Byte) : Text :=
  hex4 (dispAddr base cur) ++ [' '] ++ hex2 op ++ [' '] ++ byteSlot b1 ++ [' '] ++ byteSlot b2 ++ [' '] ++
    asmText (mnemonicText rawMnemonic mn) (opText mode op b1 b2) ++ annotation base cur mode b1

end Sys2Proof.Machine
end

