-- ==== Sys2Proof/Machine/Ops.lean ====
section
/-! DEFINITION. The operations every meaning shares: reading the buffer (R42), appending a line (R27), moving the
cursor (R22, R120), taking the one error (R212), fetching an instruction's bytes (R101 to R105), and
the decode step of an instruction already classified (R113, R120). -/

namespace Sys2Proof.Machine

/-! ## The buffer -/

/-- What an unlisted offset below `N` reads as. It is a way of writing the buffer down, not a reset
value: the host supplies all `N` bytes (R21, R230), and a cell that holds this byte is left out (log
entry 1). -/
def Memory.unlisted : Byte := 0x00

/-- The byte the cells give an offset. -/
def Memory.read : Memory → Nat → Byte
  | [], _ => Memory.unlisted
  | (x, v) :: m, a => if x = a then v else Memory.read m a

/-- The cells with one byte replaced, in canonical form. The block never writes its buffer (R21); the
host fills it with this before a pass (R233). -/
def Memory.write : Memory → Nat → Byte → Memory
  | [], a, b => if b = Memory.unlisted then [] else [(a, b)]
  | (x, v) :: m, a, b =>
    if x < a then (x, v) :: Memory.write m a b
    else if x = a then (if b = Memory.unlisted then m else (a, b) :: m)
    else (if b = Memory.unlisted then (x, v) :: m else (a, b) :: (x, v) :: m)

/-- The cells with a run of bytes stored from offset `a` on. -/
def Memory.load : Memory → Nat → List Byte → Memory
  | m, _, [] => m
  | m, a, b :: bs => Memory.load (Memory.write m a b) (a + 1) bs

/-- The canonical form: offsets strictly rising, and no cell that reads as an unlisted offset does. -/
abbrev Memory.wf (m : Memory) : Prop :=
  m.Pairwise (fun c d => c.1 < d.1) ∧ ∀ c ∈ m, c.2 ≠ Memory.unlisted

/-- `MemRead(a, 1)`: the byte at an offset below `N`; a fault of the model at or past `N` (R42). -/
def memRead (s : State) (a : Nat) : Except Fault Byte :=
  if a < s.n then .ok (s.buf.read a) else .error .readPastEnd

/-- `k` single-byte reads at consecutive offsets from `a` (R43). -/
def memReads (s : State) (a : Nat) : Nat → Except Fault (List Byte)
  | 0 => .ok []
  | k + 1 =>
    match memRead s a with
    | .error f => .error f
    | .ok b =>
      match memReads s (a + 1) k with
      | .error f => .error f
      | .ok bs => .ok (b :: bs)

/-! ## Writes to the state -/

/-- `emit(s)`: appends one line to the output (R11, R27). -/
def emit (line : Text) (s : State) : State := { s with out := s.out ++ [line] }

/-- `cur <- cur + len; if cur = N then status <- DONE` (R120). -/
def advance (len : Nat) (s : State) : State :=
  { s with cur := s.cur + len, status := statusAt (s.cur + len) s.n s.status }

/-- Taking the error `TruncatedInstruction(cur, op, len, N - cur)`: the error record and the status are
written, `cur` and `out` are unchanged (R212). There is no vector, no saved program counter and no
return (R216, R217). -/
def raiseTruncated (op : Byte) (len : Nat) (s : State) : State :=
  { s with
    err := { cur := s.cur, opcode := op, need := BitVec.ofNat 2 len, avail := s.n - s.cur }
    status := .truncated }

/-! ## The decode step -/

/-- A step is "enabled only when status = RUNNING" (R120, R121), and decoding at `cur >= N` has no result
(R100). -/
def whenEnabled (s : State) (k : Result) : Result :=
  match s.status with
  | .running => if s.cur < s.n then k else .refused .cursorOutsideBuffer
  | .done => .fault .passDone
  | .truncated => .fault .passTruncated
  | .reserved => .refused .reservedStatus

/-- The decode step of an instruction with its mnemonic, mode and bytes (R113, R120): the bounds check,
then the line and the cursor. The one length `LEN(mode)` serves the check and the advance (R235). -/
def decodeStep (mn : Mnemonic) (mode : Mode) (op : Byte) (b1 b2 : Option Byte) (s : State) : Result :=
  whenEnabled s <|
    if s.cur + mode.len > s.n then .next (raiseTruncated op mode.len s)
    else .next (advance mode.len (emit (formatLine s.base s.rawMnemonic s.cur mn mode op b1 b2) s))

/-- `decodeStep` for format F1, the opcode byte alone (R60). -/
def formatF1 (mn : Mnemonic) (mode : Mode) (op : Byte) (s : State) : Result :=
  decodeStep mn mode op none none s

/-- `decodeStep` for format F2, one operand byte (R60). -/
def formatF2 (mn : Mnemonic) (mode : Mode) (op b1 : Byte) (s : State) : Result :=
  decodeStep mn mode op (some b1) none s

/-- `decodeStep` for format F3, two operand bytes (R60). -/
def formatF3 (mn : Mnemonic) (mode : Mode) (op b1 b2 : Byte) (s : State) : Result :=
  decodeStep mn mode op (some b1) (some b2) s

/-! ## Fetch -/

/-- The bytes of the instruction at the cursor: the opcode byte (R101), and the operand bytes when the
bounds check passes. Where it fails no operand byte is read (R104, R105, R236). -/
def fetch (s : State) : Except Fault (List Byte) :=
  match memRead s s.cur with
  | .error f => .error f
  | .ok op =>
    if s.cur + lenOf op > s.n then .ok [op]
    else
      match memReads s (s.cur + 1) (lenOf op - 1) with
      | .error f => .error f
      | .ok operands => .ok (op :: operands)

/-- What a step does with bytes that are not a whole instruction: the truncated-instruction error
(R104, R212). -/
def stopDecoding (e : DecodeError) (s : State) : Result :=
  match e with
  | .noOpcode => .refused .cursorOutsideBuffer
  | .truncated op need _ => .next (raiseTruncated op need s)

end Sys2Proof.Machine
end

