-- ==== Sys2Proof/Machine/ArithLogic.lean ====
section
/-! DEFINITION. Meanings of the arithmetic, logic, compare, increment and decrement family: ADC SBC AND ORA EOR BIT CMP CPX CPY
INC DEC INX INY DEX DEY (43_arith_logic.md).
The block renders an instruction and never executes it (R6): each meaning is `decodeOne` of R113 with the
row's mnemonic, mode and opcode, and adds nothing of its own to the step. -/

namespace Sys2Proof.Machine

/-- R150, opcode 0x61: ADC, indexed indirect `(zp,X)` mode (R72). -/
def execAdcIzx (b1 : Byte) (s : State) : Result :=
  formatF2 .adc .izx 0x61 b1 s

/-- R150, opcode 0x65: ADC, zero page mode (R68). -/
def execAdcZp (b1 : Byte) (s : State) : Result :=
  formatF2 .adc .zp 0x65 b1 s

/-- R150, opcode 0x69: ADC, immediate mode (R67). -/
def execAdcImm (b1 : Byte) (s : State) : Result :=
  formatF2 .adc .imm 0x69 b1 s

/-- R150, opcode 0x6D: ADC, absolute mode (R74). -/
def execAdcAbs (b1 b2 : Byte) (s : State) : Result :=
  formatF3 .adc .abs 0x6D b1 b2 s

/-- R150, opcode 0x71: ADC, indirect indexed `(zp),Y` mode (R73). -/
def execAdcIzy (b1 : Byte) (s : State) : Result :=
  formatF2 .adc .izy 0x71 b1 s

/-- R150, opcode 0x75: ADC, zero page indexed by X mode (R69). -/
def execAdcZpx (b1 : Byte) (s : State) : Result :=
  formatF2 .adc .zpx 0x75 b1 s

/-- R150, opcode 0x79: ADC, absolute indexed by Y mode (R76). -/
def execAdcAby (b1 b2 : Byte) (s : State) : Result :=
  formatF3 .adc .aby 0x79 b1 b2 s

/-- R150, opcode 0x7D: ADC, absolute indexed by X mode (R75). -/
def execAdcAbx (b1 b2 : Byte) (s : State) : Result :=
  formatF3 .adc .abx 0x7D b1 b2 s

/-- R151, opcode 0xE1: SBC, indexed indirect `(zp,X)` mode (R72). -/
def execSbcIzx (b1 : Byte) (s : State) : Result :=
  formatF2 .sbc .izx 0xE1 b1 s

/-- R151, opcode 0xE5: SBC, zero page mode (R68). -/
def execSbcZp (b1 : Byte) (s : State) : Result :=
  formatF2 .sbc .zp 0xE5 b1 s

/-- R151, opcode 0xE9: SBC, immediate mode (R67). -/
def execSbcImm (b1 : Byte) (s : State) : Result :=
  formatF2 .sbc .imm 0xE9 b1 s

/-- R151, opcode 0xED: SBC, absolute mode (R74). -/
def execSbcAbs (b1 b2 : Byte) (s : State) : Result :=
  formatF3 .sbc .abs 0xED b1 b2 s

/-- R151, opcode 0xF1: SBC, indirect indexed `(zp),Y` mode (R73). -/
def execSbcIzy (b1 : Byte) (s : State) : Result :=
  formatF2 .sbc .izy 0xF1 b1 s

/-- R151, opcode 0xF5: SBC, zero page indexed by X mode (R69). -/
def execSbcZpx (b1 : Byte) (s : State) : Result :=
  formatF2 .sbc .zpx 0xF5 b1 s

/-- R151, opcode 0xF9: SBC, absolute indexed by Y mode (R76). -/
def execSbcAby (b1 b2 : Byte) (s : State) : Result :=
  formatF3 .sbc .aby 0xF9 b1 b2 s

/-- R151, opcode 0xFD: SBC, absolute indexed by X mode (R75). -/
def execSbcAbx (b1 b2 : Byte) (s : State) : Result :=
  formatF3 .sbc .abx 0xFD b1 b2 s

/-- R152, opcode 0x21: AND, indexed indirect `(zp,X)` mode (R72). -/
def execAndIzx (b1 : Byte) (s : State) : Result :=
  formatF2 .and .izx 0x21 b1 s

/-- R152, opcode 0x25: AND, zero page mode (R68). -/
def execAndZp (b1 : Byte) (s : State) : Result :=
  formatF2 .and .zp 0x25 b1 s

/-- R152, opcode 0x29: AND, immediate mode (R67). -/
def execAndImm (b1 : Byte) (s : State) : Result :=
  formatF2 .and .imm 0x29 b1 s

/-- R152, opcode 0x2D: AND, absolute mode (R74). -/
def execAndAbs (b1 b2 : Byte) (s : State) : Result :=
  formatF3 .and .abs 0x2D b1 b2 s

/-- R152, opcode 0x31: AND, indirect indexed `(zp),Y` mode (R73). -/
def execAndIzy (b1 : Byte) (s : State) : Result :=
  formatF2 .and .izy 0x31 b1 s

/-- R152, opcode 0x35: AND, zero page indexed by X mode (R69). -/
def execAndZpx (b1 : Byte) (s : State) : Result :=
  formatF2 .and .zpx 0x35 b1 s

/-- R152, opcode 0x39: AND, absolute indexed by Y mode (R76). -/
def execAndAby (b1 b2 : Byte) (s : State) : Result :=
  formatF3 .and .aby 0x39 b1 b2 s

/-- R152, opcode 0x3D: AND, absolute indexed by X mode (R75). -/
def execAndAbx (b1 b2 : Byte) (s : State) : Result :=
  formatF3 .and .abx 0x3D b1 b2 s

/-- R153, opcode 0x01: ORA, indexed indirect `(zp,X)` mode (R72). -/
def execOraIzx (b1 : Byte) (s : State) : Result :=
  formatF2 .ora .izx 0x01 b1 s

/-- R153, opcode 0x05: ORA, zero page mode (R68). -/
def execOraZp (b1 : Byte) (s : State) : Result :=
  formatF2 .ora .zp 0x05 b1 s

/-- R153, opcode 0x09: ORA, immediate mode (R67). -/
def execOraImm (b1 : Byte) (s : State) : Result :=
  formatF2 .ora .imm 0x09 b1 s

/-- R153, opcode 0x0D: ORA, absolute mode (R74). -/
def execOraAbs (b1 b2 : Byte) (s : State) : Result :=
  formatF3 .ora .abs 0x0D b1 b2 s

/-- R153, opcode 0x11: ORA, indirect indexed `(zp),Y` mode (R73). -/
def execOraIzy (b1 : Byte) (s : State) : Result :=
  formatF2 .ora .izy 0x11 b1 s

/-- R153, opcode 0x15: ORA, zero page indexed by X mode (R69). -/
def execOraZpx (b1 : Byte) (s : State) : Result :=
  formatF2 .ora .zpx 0x15 b1 s

/-- R153, opcode 0x19: ORA, absolute indexed by Y mode (R76). -/
def execOraAby (b1 b2 : Byte) (s : State) : Result :=
  formatF3 .ora .aby 0x19 b1 b2 s

/-- R153, opcode 0x1D: ORA, absolute indexed by X mode (R75). -/
def execOraAbx (b1 b2 : Byte) (s : State) : Result :=
  formatF3 .ora .abx 0x1D b1 b2 s

/-- R154, opcode 0x41: EOR, indexed indirect `(zp,X)` mode (R72). -/
def execEorIzx (b1 : Byte) (s : State) : Result :=
  formatF2 .eor .izx 0x41 b1 s

/-- R154, opcode 0x45: EOR, zero page mode (R68). -/
def execEorZp (b1 : Byte) (s : State) : Result :=
  formatF2 .eor .zp 0x45 b1 s

/-- R154, opcode 0x49: EOR, immediate mode (R67). -/
def execEorImm (b1 : Byte) (s : State) : Result :=
  formatF2 .eor .imm 0x49 b1 s

/-- R154, opcode 0x4D: EOR, absolute mode (R74). -/
def execEorAbs (b1 b2 : Byte) (s : State) : Result :=
  formatF3 .eor .abs 0x4D b1 b2 s

/-- R154, opcode 0x51: EOR, indirect indexed `(zp),Y` mode (R73). -/
def execEorIzy (b1 : Byte) (s : State) : Result :=
  formatF2 .eor .izy 0x51 b1 s

/-- R154, opcode 0x55: EOR, zero page indexed by X mode (R69). -/
def execEorZpx (b1 : Byte) (s : State) : Result :=
  formatF2 .eor .zpx 0x55 b1 s

/-- R154, opcode 0x59: EOR, absolute indexed by Y mode (R76). -/
def execEorAby (b1 b2 : Byte) (s : State) : Result :=
  formatF3 .eor .aby 0x59 b1 b2 s

/-- R154, opcode 0x5D: EOR, absolute indexed by X mode (R75). -/
def execEorAbx (b1 b2 : Byte) (s : State) : Result :=
  formatF3 .eor .abx 0x5D b1 b2 s

/-- R155, opcode 0x24: BIT, zero page mode (R68). -/
def execBitZp (b1 : Byte) (s : State) : Result :=
  formatF2 .bit .zp 0x24 b1 s

/-- R155, opcode 0x2C: BIT, absolute mode (R74). -/
def execBitAbs (b1 b2 : Byte) (s : State) : Result :=
  formatF3 .bit .abs 0x2C b1 b2 s

/-- R156, opcode 0xC1: CMP, indexed indirect `(zp,X)` mode (R72). -/
def execCmpIzx (b1 : Byte) (s : State) : Result :=
  formatF2 .cmp .izx 0xC1 b1 s

/-- R156, opcode 0xC5: CMP, zero page mode (R68). -/
def execCmpZp (b1 : Byte) (s : State) : Result :=
  formatF2 .cmp .zp 0xC5 b1 s

/-- R156, opcode 0xC9: CMP, immediate mode (R67). -/
def execCmpImm (b1 : Byte) (s : State) : Result :=
  formatF2 .cmp .imm 0xC9 b1 s

/-- R156, opcode 0xCD: CMP, absolute mode (R74). -/
def execCmpAbs (b1 b2 : Byte) (s : State) : Result :=
  formatF3 .cmp .abs 0xCD b1 b2 s

/-- R156, opcode 0xD1: CMP, indirect indexed `(zp),Y` mode (R73). -/
def execCmpIzy (b1 : Byte) (s : State) : Result :=
  formatF2 .cmp .izy 0xD1 b1 s

/-- R156, opcode 0xD5: CMP, zero page indexed by X mode (R69). -/
def execCmpZpx (b1 : Byte) (s : State) : Result :=
  formatF2 .cmp .zpx 0xD5 b1 s

/-- R156, opcode 0xD9: CMP, absolute indexed by Y mode (R76). -/
def execCmpAby (b1 b2 : Byte) (s : State) : Result :=
  formatF3 .cmp .aby 0xD9 b1 b2 s

/-- R156, opcode 0xDD: CMP, absolute indexed by X mode (R75). -/
def execCmpAbx (b1 b2 : Byte) (s : State) : Result :=
  formatF3 .cmp .abx 0xDD b1 b2 s

/-- R157, opcode 0xE0: CPX, immediate mode (R67). -/
def execCpxImm (b1 : Byte) (s : State) : Result :=
  formatF2 .cpx .imm 0xE0 b1 s

/-- R157, opcode 0xE4: CPX, zero page mode (R68). -/
def execCpxZp (b1 : Byte) (s : State) : Result :=
  formatF2 .cpx .zp 0xE4 b1 s

/-- R157, opcode 0xEC: CPX, absolute mode (R74). -/
def execCpxAbs (b1 b2 : Byte) (s : State) : Result :=
  formatF3 .cpx .abs 0xEC b1 b2 s

/-- R158, opcode 0xC0: CPY, immediate mode (R67). -/
def execCpyImm (b1 : Byte) (s : State) : Result :=
  formatF2 .cpy .imm 0xC0 b1 s

/-- R158, opcode 0xC4: CPY, zero page mode (R68). -/
def execCpyZp (b1 : Byte) (s : State) : Result :=
  formatF2 .cpy .zp 0xC4 b1 s

/-- R158, opcode 0xCC: CPY, absolute mode (R74). -/
def execCpyAbs (b1 b2 : Byte) (s : State) : Result :=
  formatF3 .cpy .abs 0xCC b1 b2 s

/-- R159, opcode 0xE6: INC, zero page mode (R68). -/
def execIncZp (b1 : Byte) (s : State) : Result :=
  formatF2 .inc .zp 0xE6 b1 s

/-- R159, opcode 0xEE: INC, absolute mode (R74). -/
def execIncAbs (b1 b2 : Byte) (s : State) : Result :=
  formatF3 .inc .abs 0xEE b1 b2 s

/-- R159, opcode 0xF6: INC, zero page indexed by X mode (R69). -/
def execIncZpx (b1 : Byte) (s : State) : Result :=
  formatF2 .inc .zpx 0xF6 b1 s

/-- R159, opcode 0xFE: INC, absolute indexed by X mode (R75). -/
def execIncAbx (b1 b2 : Byte) (s : State) : Result :=
  formatF3 .inc .abx 0xFE b1 b2 s

/-- R160, opcode 0xC6: DEC, zero page mode (R68). -/
def execDecZp (b1 : Byte) (s : State) : Result :=
  formatF2 .dec .zp 0xC6 b1 s

/-- R160, opcode 0xCE: DEC, absolute mode (R74). -/
def execDecAbs (b1 b2 : Byte) (s : State) : Result :=
  formatF3 .dec .abs 0xCE b1 b2 s

/-- R160, opcode 0xD6: DEC, zero page indexed by X mode (R69). -/
def execDecZpx (b1 : Byte) (s : State) : Result :=
  formatF2 .dec .zpx 0xD6 b1 s

/-- R160, opcode 0xDE: DEC, absolute indexed by X mode (R75). -/
def execDecAbx (b1 b2 : Byte) (s : State) : Result :=
  formatF3 .dec .abx 0xDE b1 b2 s

/-- R161, opcode 0xE8: INX, implied mode (R65). -/
def execInx (s : State) : Result :=
  formatF1 .inx .imp 0xE8 s

/-- R162, opcode 0xC8: INY, implied mode (R65). -/
def execIny (s : State) : Result :=
  formatF1 .iny .imp 0xC8 s

/-- R163, opcode 0xCA: DEX, implied mode (R65). -/
def execDex (s : State) : Result :=
  formatF1 .dex .imp 0xCA s

/-- R164, opcode 0x88: DEY, implied mode (R65). -/
def execDey (s : State) : Result :=
  formatF1 .dey .imp 0x88 s

end Sys2Proof.Machine
end

