-- ==== Sys2Proof/Machine/Control.lean ====
section
/-! DEFINITION. Meanings of the control transfer family: JMP JSR RTS RTI BRK and the eight relative branches (45_control.md).
The block renders an instruction and never executes it (R6): each meaning is `decodeOne` of R113 with the
row's mnemonic, mode and opcode, and adds nothing of its own to the step. -/

namespace Sys2Proof.Machine

/-- R180, opcode 0x4C: JMP, absolute mode (R74). -/
def execJmpAbs (b1 b2 : Byte) (s : State) : Result :=
  formatF3 .jmp .abs 0x4C b1 b2 s

/-- R180, opcode 0x6C: JMP, absolute indirect mode (R77). -/
def execJmpInd (b1 b2 : Byte) (s : State) : Result :=
  formatF3 .jmp .ind 0x6C b1 b2 s

/-- R181, opcode 0x20: JSR, absolute mode (R74). -/
def execJsr (b1 b2 : Byte) (s : State) : Result :=
  formatF3 .jsr .abs 0x20 b1 b2 s

/-- R182, opcode 0x60: RTS, implied mode (R65). -/
def execRts (s : State) : Result :=
  formatF1 .rts .imp 0x60 s

/-- R183, opcode 0x40: RTI, implied mode (R65). -/
def execRti (s : State) : Result :=
  formatF1 .rti .imp 0x40 s

/-- R184, opcode 0x00: BRK, implied mode (R65). -/
def execBrk (s : State) : Result :=
  formatF1 .brk .imp 0x00 s

/-- R185, opcode 0x90: BCC, relative mode (R71). -/
def execBcc (b1 : Byte) (s : State) : Result :=
  formatF2 .bcc .rel 0x90 b1 s

/-- R186, opcode 0xB0: BCS, relative mode (R71). -/
def execBcs (b1 : Byte) (s : State) : Result :=
  formatF2 .bcs .rel 0xB0 b1 s

/-- R187, opcode 0xF0: BEQ, relative mode (R71). -/
def execBeq (b1 : Byte) (s : State) : Result :=
  formatF2 .beq .rel 0xF0 b1 s

/-- R188, opcode 0x30: BMI, relative mode (R71). -/
def execBmi (b1 : Byte) (s : State) : Result :=
  formatF2 .bmi .rel 0x30 b1 s

/-- R189, opcode 0xD0: BNE, relative mode (R71). -/
def execBne (b1 : Byte) (s : State) : Result :=
  formatF2 .bne .rel 0xD0 b1 s

/-- R190, opcode 0x10: BPL, relative mode (R71). -/
def execBpl (b1 : Byte) (s : State) : Result :=
  formatF2 .bpl .rel 0x10 b1 s

/-- R191, opcode 0x50: BVC, relative mode (R71). -/
def execBvc (b1 : Byte) (s : State) : Result :=
  formatF2 .bvc .rel 0x50 b1 s

/-- R192, opcode 0x70: BVS, relative mode (R71). -/
def execBvs (b1 : Byte) (s : State) : Result :=
  formatF2 .bvs .rel 0x70 b1 s

end Sys2Proof.Machine
end

