-- ==== Sys2Proof/Machine/FlagsMisc.lean ====
section
/-! DEFINITION. Meanings of the flag and no-operation family: CLC CLD CLI CLV SEC SED SEI NOP (46_flags_misc.md).
The block renders an instruction and never executes it (R6): each meaning is `decodeOne` of R113 with the
row's mnemonic, mode and opcode, and adds nothing of its own to the step. -/

namespace Sys2Proof.Machine

/-- R195, opcode 0x18: CLC, implied mode (R65). -/
def execClc (s : State) : Result :=
  formatF1 .clc .imp 0x18 s

/-- R196, opcode 0xD8: CLD, implied mode (R65). -/
def execCld (s : State) : Result :=
  formatF1 .cld .imp 0xD8 s

/-- R197, opcode 0x58: CLI, implied mode (R65). -/
def execCli (s : State) : Result :=
  formatF1 .cli .imp 0x58 s

/-- R198, opcode 0xB8: CLV, implied mode (R65). -/
def execClv (s : State) : Result :=
  formatF1 .clv .imp 0xB8 s

/-- R199, opcode 0x38: SEC, implied mode (R65). -/
def execSec (s : State) : Result :=
  formatF1 .sec .imp 0x38 s

/-- R200, opcode 0xF8: SED, implied mode (R65). -/
def execSed (s : State) : Result :=
  formatF1 .sed .imp 0xF8 s

/-- R201, opcode 0x78: SEI, implied mode (R65). -/
def execSei (s : State) : Result :=
  formatF1 .sei .imp 0x78 s

/-- R202, opcode 0xEA: NOP, implied mode (R65). -/
def execNop (s : State) : Result :=
  formatF1 .nop .imp 0xEA s

end Sys2Proof.Machine
end

