-- ==== Sys2Proof/Machine/LoadStore.lean ====
section
/-! DEFINITION. Meanings of the load and store family: LDA LDX LDY STA STX STY (41_load_store.md).
The block renders an instruction and never executes it (R6): each meaning is `decodeOne` of R113 with the
row's mnemonic, mode and opcode, and adds nothing of its own to the step. -/

namespace Sys2Proof.Machine

/-- R130, opcode 0xA1: LDA, indexed indirect `(zp,X)` mode (R72). -/
def execLdaIzx (b1 : Byte) (s : State) : Result :=
  formatF2 .lda .izx 0xA1 b1 s

/-- R130, opcode 0xA5: LDA, zero page mode (R68). -/
def execLdaZp (b1 : Byte) (s : State) : Result :=
  formatF2 .lda .zp 0xA5 b1 s

/-- R130, opcode 0xA9: LDA, immediate mode (R67). -/
def execLdaImm (b1 : Byte) (s : State) : Result :=
  formatF2 .lda .imm 0xA9 b1 s

/-- R130, opcode 0xAD: LDA, absolute mode (R74). -/
def execLdaAbs (b1 b2 : Byte) (s : State) : Result :=
  formatF3 .lda .abs 0xAD b1 b2 s

/-- R130, opcode 0xB1: LDA, indirect indexed `(zp),Y` mode (R73). -/
def execLdaIzy (b1 : Byte) (s : State) : Result :=
  formatF2 .lda .izy 0xB1 b1 s

/-- R130, opcode 0xB5: LDA, zero page indexed by X mode (R69). -/
def execLdaZpx (b1 : Byte) (s : State) : Result :=
  formatF2 .lda .zpx 0xB5 b1 s

/-- R130, opcode 0xB9: LDA, absolute indexed by Y mode (R76). -/
def execLdaAby (b1 b2 : Byte) (s : State) : Result :=
  formatF3 .lda .aby 0xB9 b1 b2 s

/-- R130, opcode 0xBD: LDA, absolute indexed by X mode (R75). -/
def execLdaAbx (b1 b2 : Byte) (s : State) : Result :=
  formatF3 .lda .abx 0xBD b1 b2 s

/-- R131, opcode 0xA2: LDX, immediate mode (R67). -/
def execLdxImm (b1 : Byte) (s : State) : Result :=
  formatF2 .ldx .imm 0xA2 b1 s

/-- R131, opcode 0xA6: LDX, zero page mode (R68). -/
def execLdxZp (b1 : Byte) (s : State) : Result :=
  formatF2 .ldx .zp 0xA6 b1 s

/-- R131, opcode 0xAE: LDX, absolute mode (R74). -/
def execLdxAbs (b1 b2 : Byte) (s : State) : Result :=
  formatF3 .ldx .abs 0xAE b1 b2 s

/-- R131, opcode 0xB6: LDX, zero page indexed by Y mode (R70). -/
def execLdxZpy (b1 : Byte) (s : State) : Result :=
  formatF2 .ldx .zpy 0xB6 b1 s

/-- R131, opcode 0xBE: LDX, absolute indexed by Y mode (R76). -/
def execLdxAby (b1 b2 : Byte) (s : State) : Result :=
  formatF3 .ldx .aby 0xBE b1 b2 s

/-- R132, opcode 0xA0: LDY, immediate mode (R67). -/
def execLdyImm (b1 : Byte) (s : State) : Result :=
  formatF2 .ldy .imm 0xA0 b1 s

/-- R132, opcode 0xA4: LDY, zero page mode (R68). -/
def execLdyZp (b1 : Byte) (s : State) : Result :=
  formatF2 .ldy .zp 0xA4 b1 s

/-- R132, opcode 0xAC: LDY, absolute mode (R74). -/
def execLdyAbs (b1 b2 : Byte) (s : State) : Result :=
  formatF3 .ldy .abs 0xAC b1 b2 s

/-- R132, opcode 0xB4: LDY, zero page indexed by X mode (R69). -/
def execLdyZpx (b1 : Byte) (s : State) : Result :=
  formatF2 .ldy .zpx 0xB4 b1 s

/-- R132, opcode 0xBC: LDY, absolute indexed by X mode (R75). -/
def execLdyAbx (b1 b2 : Byte) (s : State) : Result :=
  formatF3 .ldy .abx 0xBC b1 b2 s

/-- R133, opcode 0x81: STA, indexed indirect `(zp,X)` mode (R72). -/
def execStaIzx (b1 : Byte) (s : State) : Result :=
  formatF2 .sta .izx 0x81 b1 s

/-- R133, opcode 0x85: STA, zero page mode (R68). -/
def execStaZp (b1 : Byte) (s : State) : Result :=
  formatF2 .sta .zp 0x85 b1 s

/-- R133, opcode 0x8D: STA, absolute mode (R74). -/
def execStaAbs (b1 b2 : Byte) (s : State) : Result :=
  formatF3 .sta .abs 0x8D b1 b2 s

/-- R133, opcode 0x91: STA, indirect indexed `(zp),Y` mode (R73). -/
def execStaIzy (b1 : Byte) (s : State) : Result :=
  formatF2 .sta .izy 0x91 b1 s

/-- R133, opcode 0x95: STA, zero page indexed by X mode (R69). -/
def execStaZpx (b1 : Byte) (s : State) : Result :=
  formatF2 .sta .zpx 0x95 b1 s

/-- R133, opcode 0x99: STA, absolute indexed by Y mode (R76). -/
def execStaAby (b1 b2 : Byte) (s : State) : Result :=
  formatF3 .sta .aby 0x99 b1 b2 s

/-- R133, opcode 0x9D: STA, absolute indexed by X mode (R75). -/
def execStaAbx (b1 b2 : Byte) (s : State) : Result :=
  formatF3 .sta .abx 0x9D b1 b2 s

/-- R134, opcode 0x86: STX, zero page mode (R68). -/
def execStxZp (b1 : Byte) (s : State) : Result :=
  formatF2 .stx .zp 0x86 b1 s

/-- R134, opcode 0x8E: STX, absolute mode (R74). -/
def execStxAbs (b1 b2 : Byte) (s : State) : Result :=
  formatF3 .stx .abs 0x8E b1 b2 s

/-- R134, opcode 0x96: STX, zero page indexed by Y mode (R70). -/
def execStxZpy (b1 : Byte) (s : State) : Result :=
  formatF2 .stx .zpy 0x96 b1 s

/-- R135, opcode 0x84: STY, zero page mode (R68). -/
def execStyZp (b1 : Byte) (s : State) : Result :=
  formatF2 .sty .zp 0x84 b1 s

/-- R135, opcode 0x8C: STY, absolute mode (R74). -/
def execStyAbs (b1 b2 : Byte) (s : State) : Result :=
  formatF3 .sty .abs 0x8C b1 b2 s

/-- R135, opcode 0x94: STY, zero page indexed by X mode (R69). -/
def execStyZpx (b1 : Byte) (s : State) : Result :=
  formatF2 .sty .zpx 0x94 b1 s

end Sys2Proof.Machine
end

