-- ==== Sys2Proof/Machine/RawData.lean ====
section
/-! DEFINITION. Meaning of the raw data byte, the classifier's fallback for the 105 undefined byte values
(47_raw_data.md). -/

namespace Sys2Proof.Machine

/-- R205: any undefined opcode byte, as `RAW_MNEMONIC` and the byte itself (R78); length 1, no error. -/
def execRaw (op : Byte) (s : State) : Result :=
  formatF1 .raw .raw op s

end Sys2Proof.Machine
end

