-- ==== Sys2Proof/Machine/ShiftRotate.lean ====
section
/-! DEFINITION. Meanings of the shift and rotate family: ASL LSR ROL ROR (44_shift_rotate.md).
The block renders an instruction and never executes it (R6): each meaning is `decodeOne` of R113 with the
row's mnemonic, mode and opcode, and adds nothing of its own to the step. -/

namespace Sys2Proof.Machine

/-- R170, opcode 0x06: ASL, zero page mode (R68). -/
def execAslZp (b1 : Byte) (s : State) : Result :=
  formatF2 .asl .zp 0x06 b1 s

/-- R170, opcode 0x0A: ASL, accumulator mode (R66). -/
def execAslAcc (s : State) : Result :=
  formatF1 .asl .acc 0x0A s

/-- R170, opcode 0x0E: ASL, absolute mode (R74). -/
def execAslAbs (b1 b2 : Byte) (s : State) : Result :=
  formatF3 .asl .abs 0x0E b1 b2 s

/-- R170, opcode 0x16: ASL, zero page indexed by X mode (R69). -/
def execAslZpx (b1 : Byte) (s : State) : Result :=
  formatF2 .asl .zpx 0x16 b1 s

/-- R170, opcode 0x1E: ASL, absolute indexed by X mode (R75). -/
def execAslAbx (b1 b2 : Byte) (s : State) : Result :=
  formatF3 .asl .abx 0x1E b1 b2 s

/-- R171, opcode 0x46: LSR, zero page mode (R68). -/
def execLsrZp (b1 : Byte) (s : State) : Result :=
  formatF2 .lsr .zp 0x46 b1 s

/-- R171, opcode 0x4A: LSR, accumulator mode (R66). -/
def execLsrAcc (s : State) : Result :=
  formatF1 .lsr .acc 0x4A s

/-- R171, opcode 0x4E: LSR, absolute mode (R74). -/
def execLsrAbs (b1 b2 : Byte) (s : State) : Result :=
  formatF3 .lsr .abs 0x4E b1 b2 s

/-- R171, opcode 0x56: LSR, zero page indexed by X mode (R69). -/
def execLsrZpx (b1 : Byte) (s : State) : Result :=
  formatF2 .lsr .zpx 0x56 b1 s

/-- R171, opcode 0x5E: LSR, absolute indexed by X mode (R75). -/
def execLsrAbx (b1 b2 : Byte) (s : State) : Result :=
  formatF3 .lsr .abx 0x5E b1 b2 s

/-- R172, opcode 0x26: ROL, zero page mode (R68). -/
def execRolZp (b1 : Byte) (s : State) : Result :=
  formatF2 .rol .zp 0x26 b1 s

/-- R172, opcode 0x2A: ROL, accumulator mode (R66). -/
def execRolAcc (s : State) : Result :=
  formatF1 .rol .acc 0x2A s

/-- R172, opcode 0x2E: ROL, absolute mode (R74). -/
def execRolAbs (b1 b2 : Byte) (s : State) : Result :=
  formatF3 .rol .abs 0x2E b1 b2 s

/-- R172, opcode 0x36: ROL, zero page indexed by X mode (R69). -/
def execRolZpx (b1 : Byte) (s : State) : Result :=
  formatF2 .rol .zpx 0x36 b1 s

/-- R172, opcode 0x3E: ROL, absolute indexed by X mode (R75). -/
def execRolAbx (b1 b2 : Byte) (s : State) : Result :=
  formatF3 .rol .abx 0x3E b1 b2 s

/-- R173, opcode 0x66: ROR, zero page mode (R68). -/
def execRorZp (b1 : Byte) (s : State) : Result :=
  formatF2 .ror .zp 0x66 b1 s

/-- R173, opcode 0x6A: ROR, accumulator mode (R66). -/
def execRorAcc (s : State) : Result :=
  formatF1 .ror .acc 0x6A s

/-- R173, opcode 0x6E: ROR, absolute mode (R74). -/
def execRorAbs (b1 b2 : Byte) (s : State) : Result :=
  formatF3 .ror .abs 0x6E b1 b2 s

/-- R173, opcode 0x76: ROR, zero page indexed by X mode (R69). -/
def execRorZpx (b1 : Byte) (s : State) : Result :=
  formatF2 .ror .zpx 0x76 b1 s

/-- R173, opcode 0x7E: ROR, absolute indexed by X mode (R75). -/
def execRorAbx (b1 b2 : Byte) (s : State) : Result :=
  formatF3 .ror .abx 0x7E b1 b2 s

end Sys2Proof.Machine
end

