-- ==== Sys2Proof/Machine/TransferStack.lean ====
section
/-! DEFINITION. Meanings of the register transfer and stack family: TAX TAY TSX TXA TXS TYA PHA PHP PLA PLP (42_transfer_stack.md).
The block renders an instruction and never executes it (R6): each meaning is `decodeOne` of R113 with the
row's mnemonic, mode and opcode, and adds nothing of its own to the step. -/

namespace Sys2Proof.Machine

/-- R140, opcode 0xAA: TAX, implied mode (R65). -/
def execTax (s : State) : Result :=
  formatF1 .tax .imp 0xAA s

/-- R141, opcode 0xA8: TAY, implied mode (R65). -/
def execTay (s : State) : Result :=
  formatF1 .tay .imp 0xA8 s

/-- R142, opcode 0xBA: TSX, implied mode (R65). -/
def execTsx (s : State) : Result :=
  formatF1 .tsx .imp 0xBA s

/-- R143, opcode 0x8A: TXA, implied mode (R65). -/
def execTxa (s : State) : Result :=
  formatF1 .txa .imp 0x8A s

/-- R144, opcode 0x9A: TXS, implied mode (R65). -/
def execTxs (s : State) : Result :=
  formatF1 .txs .imp 0x9A s

/-- R145, opcode 0x98: TYA, implied mode (R65). -/
def execTya (s : State) : Result :=
  formatF1 .tya .imp 0x98 s

/-- R146, opcode 0x48: PHA, implied mode (R65). -/
def execPha (s : State) : Result :=
  formatF1 .pha .imp 0x48 s

/-- R147, opcode 0x08: PHP, implied mode (R65). -/
def execPhp (s : State) : Result :=
  formatF1 .php .imp 0x08 s

/-- R148, opcode 0x68: PLA, implied mode (R65). -/
def execPla (s : State) : Result :=
  formatF1 .pla .imp 0x68 s

/-- R149, opcode 0x28: PLP, implied mode (R65). -/
def execPlp (s : State) : Result :=
  formatF1 .plp .imp 0x28 s

end Sys2Proof.Machine
end

