-- ==== Sys2Proof/Machine/Dispatch.lean ====
section
/-! DEFINITION. The one match from an instruction to its meaning. -/

namespace Sys2Proof.Machine

def exec (i : Instr) (s : State) : Host.Outcome State Fault Refusal :=
  match i with
  | .ldaIzx b1 => Sys2Proof.Machine.execLdaIzx b1 s
  | .ldaZp b1 => Sys2Proof.Machine.execLdaZp b1 s
  | .ldaImm b1 => Sys2Proof.Machine.execLdaImm b1 s
  | .ldaAbs b1 b2 => Sys2Proof.Machine.execLdaAbs b1 b2 s
  | .ldaIzy b1 => Sys2Proof.Machine.execLdaIzy b1 s
  | .ldaZpx b1 => Sys2Proof.Machine.execLdaZpx b1 s
  | .ldaAby b1 b2 => Sys2Proof.Machine.execLdaAby b1 b2 s
  | .ldaAbx b1 b2 => Sys2Proof.Machine.execLdaAbx b1 b2 s
  | .ldxImm b1 => Sys2Proof.Machine.execLdxImm b1 s
  | .ldxZp b1 => Sys2Proof.Machine.execLdxZp b1 s
  | .ldxAbs b1 b2 => Sys2Proof.Machine.execLdxAbs b1 b2 s
  | .ldxZpy b1 => Sys2Proof.Machine.execLdxZpy b1 s
  | .ldxAby b1 b2 => Sys2Proof.Machine.execLdxAby b1 b2 s
  | .ldyImm b1 => Sys2Proof.Machine.execLdyImm b1 s
  | .ldyZp b1 => Sys2Proof.Machine.execLdyZp b1 s
  | .ldyAbs b1 b2 => Sys2Proof.Machine.execLdyAbs b1 b2 s
  | .ldyZpx b1 => Sys2Proof.Machine.execLdyZpx b1 s
  | .ldyAbx b1 b2 => Sys2Proof.Machine.execLdyAbx b1 b2 s
  | .staIzx b1 => Sys2Proof.Machine.execStaIzx b1 s
  | .staZp b1 => Sys2Proof.Machine.execStaZp b1 s
  | .staAbs b1 b2 => Sys2Proof.Machine.execStaAbs b1 b2 s
  | .staIzy b1 => Sys2Proof.Machine.execStaIzy b1 s
  | .staZpx b1 => Sys2Proof.Machine.execStaZpx b1 s
  | .staAby b1 b2 => Sys2Proof.Machine.execStaAby b1 b2 s
  | .staAbx b1 b2 => Sys2Proof.Machine.execStaAbx b1 b2 s
  | .stxZp b1 => Sys2Proof.Machine.execStxZp b1 s
  | .stxAbs b1 b2 => Sys2Proof.Machine.execStxAbs b1 b2 s
  | .stxZpy b1 => Sys2Proof.Machine.execStxZpy b1 s
  | .styZp b1 => Sys2Proof.Machine.execStyZp b1 s
  | .styAbs b1 b2 => Sys2Proof.Machine.execStyAbs b1 b2 s
  | .styZpx b1 => Sys2Proof.Machine.execStyZpx b1 s
  | .tax => Sys2Proof.Machine.execTax s
  | .tay => Sys2Proof.Machine.execTay s
  | .tsx => Sys2Proof.Machine.execTsx s
  | .txa => Sys2Proof.Machine.execTxa s
  | .txs => Sys2Proof.Machine.execTxs s
  | .tya => Sys2Proof.Machine.execTya s
  | .pha => Sys2Proof.Machine.execPha s
  | .php => Sys2Proof.Machine.execPhp s
  | .pla => Sys2Proof.Machine.execPla s
  | .plp => Sys2Proof.Machine.execPlp s
  | .adcIzx b1 => Sys2Proof.Machine.execAdcIzx b1 s
  | .adcZp b1 => Sys2Proof.Machine.execAdcZp b1 s
  | .adcImm b1 => Sys2Proof.Machine.execAdcImm b1 s
  | .adcAbs b1 b2 => Sys2Proof.Machine.execAdcAbs b1 b2 s
  | .adcIzy b1 => Sys2Proof.Machine.execAdcIzy b1 s
  | .adcZpx b1 => Sys2Proof.Machine.execAdcZpx b1 s
  | .adcAby b1 b2 => Sys2Proof.Machine.execAdcAby b1 b2 s
  | .adcAbx b1 b2 => Sys2Proof.Machine.execAdcAbx b1 b2 s
  | .sbcIzx b1 => Sys2Proof.Machine.execSbcIzx b1 s
  | .sbcZp b1 => Sys2Proof.Machine.execSbcZp b1 s
  | .sbcImm b1 => Sys2Proof.Machine.execSbcImm b1 s
  | .sbcAbs b1 b2 => Sys2Proof.Machine.execSbcAbs b1 b2 s
  | .sbcIzy b1 => Sys2Proof.Machine.execSbcIzy b1 s
  | .sbcZpx b1 => Sys2Proof.Machine.execSbcZpx b1 s
  | .sbcAby b1 b2 => Sys2Proof.Machine.execSbcAby b1 b2 s
  | .sbcAbx b1 b2 => Sys2Proof.Machine.execSbcAbx b1 b2 s
  | .andIzx b1 => Sys2Proof.Machine.execAndIzx b1 s
  | .andZp b1 => Sys2Proof.Machine.execAndZp b1 s
  | .andImm b1 => Sys2Proof.Machine.execAndImm b1 s
  | .andAbs b1 b2 => Sys2Proof.Machine.execAndAbs b1 b2 s
  | .andIzy b1 => Sys2Proof.Machine.execAndIzy b1 s
  | .andZpx b1 => Sys2Proof.Machine.execAndZpx b1 s
  | .andAby b1 b2 => Sys2Proof.Machine.execAndAby b1 b2 s
  | .andAbx b1 b2 => Sys2Proof.Machine.execAndAbx b1 b2 s
  | .oraIzx b1 => Sys2Proof.Machine.execOraIzx b1 s
  | .oraZp b1 => Sys2Proof.Machine.execOraZp b1 s
  | .oraImm b1 => Sys2Proof.Machine.execOraImm b1 s
  | .oraAbs b1 b2 => Sys2Proof.Machine.execOraAbs b1 b2 s
  | .oraIzy b1 => Sys2Proof.Machine.execOraIzy b1 s
  | .oraZpx b1 => Sys2Proof.Machine.execOraZpx b1 s
  | .oraAby b1 b2 => Sys2Proof.Machine.execOraAby b1 b2 s
  | .oraAbx b1 b2 => Sys2Proof.Machine.execOraAbx b1 b2 s
  | .eorIzx b1 => Sys2Proof.Machine.execEorIzx b1 s
  | .eorZp b1 => Sys2Proof.Machine.execEorZp b1 s
  | .eorImm b1 => Sys2Proof.Machine.execEorImm b1 s
  | .eorAbs b1 b2 => Sys2Proof.Machine.execEorAbs b1 b2 s
  | .eorIzy b1 => Sys2Proof.Machine.execEorIzy b1 s
  | .eorZpx b1 => Sys2Proof.Machine.execEorZpx b1 s
  | .eorAby b1 b2 => Sys2Proof.Machine.execEorAby b1 b2 s
  | .eorAbx b1 b2 => Sys2Proof.Machine.execEorAbx b1 b2 s
  | .bitZp b1 => Sys2Proof.Machine.execBitZp b1 s
  | .bitAbs b1 b2 => Sys2Proof.Machine.execBitAbs b1 b2 s
  | .cmpIzx b1 => Sys2Proof.Machine.execCmpIzx b1 s
  | .cmpZp b1 => Sys2Proof.Machine.execCmpZp b1 s
  | .cmpImm b1 => Sys2Proof.Machine.execCmpImm b1 s
  | .cmpAbs b1 b2 => Sys2Proof.Machine.execCmpAbs b1 b2 s
  | .cmpIzy b1 => Sys2Proof.Machine.execCmpIzy b1 s
  | .cmpZpx b1 => Sys2Proof.Machine.execCmpZpx b1 s
  | .cmpAby b1 b2 => Sys2Proof.Machine.execCmpAby b1 b2 s
  | .cmpAbx b1 b2 => Sys2Proof.Machine.execCmpAbx b1 b2 s
  | .cpxImm b1 => Sys2Proof.Machine.execCpxImm b1 s
  | .cpxZp b1 => Sys2Proof.Machine.execCpxZp b1 s
  | .cpxAbs b1 b2 => Sys2Proof.Machine.execCpxAbs b1 b2 s
  | .cpyImm b1 => Sys2Proof.Machine.execCpyImm b1 s
  | .cpyZp b1 => Sys2Proof.Machine.execCpyZp b1 s
  | .cpyAbs b1 b2 => Sys2Proof.Machine.execCpyAbs b1 b2 s
  | .incZp b1 => Sys2Proof.Machine.execIncZp b1 s
  | .incAbs b1 b2 => Sys2Proof.Machine.execIncAbs b1 b2 s
  | .incZpx b1 => Sys2Proof.Machine.execIncZpx b1 s
  | .incAbx b1 b2 => Sys2Proof.Machine.execIncAbx b1 b2 s
  | .decZp b1 => Sys2Proof.Machine.execDecZp b1 s
  | .decAbs b1 b2 => Sys2Proof.Machine.execDecAbs b1 b2 s
  | .decZpx b1 => Sys2Proof.Machine.execDecZpx b1 s
  | .decAbx b1 b2 => Sys2Proof.Machine.execDecAbx b1 b2 s
  | .inx => Sys2Proof.Machine.execInx s
  | .iny => Sys2Proof.Machine.execIny s
  | .dex => Sys2Proof.Machine.execDex s
  | .dey => Sys2Proof.Machine.execDey s
  | .aslZp b1 => Sys2Proof.Machine.execAslZp b1 s
  | .aslAcc => Sys2Proof.Machine.execAslAcc s
  | .aslAbs b1 b2 => Sys2Proof.Machine.execAslAbs b1 b2 s
  | .aslZpx b1 => Sys2Proof.Machine.execAslZpx b1 s
  | .aslAbx b1 b2 => Sys2Proof.Machine.execAslAbx b1 b2 s
  | .lsrZp b1 => Sys2Proof.Machine.execLsrZp b1 s
  | .lsrAcc => Sys2Proof.Machine.execLsrAcc s
  | .lsrAbs b1 b2 => Sys2Proof.Machine.execLsrAbs b1 b2 s
  | .lsrZpx b1 => Sys2Proof.Machine.execLsrZpx b1 s
  | .lsrAbx b1 b2 => Sys2Proof.Machine.execLsrAbx b1 b2 s
  | .rolZp b1 => Sys2Proof.Machine.execRolZp b1 s
  | .rolAcc => Sys2Proof.Machine.execRolAcc s
  | .rolAbs b1 b2 => Sys2Proof.Machine.execRolAbs b1 b2 s
  | .rolZpx b1 => Sys2Proof.Machine.execRolZpx b1 s
  | .rolAbx b1 b2 => Sys2Proof.Machine.execRolAbx b1 b2 s
  | .rorZp b1 => Sys2Proof.Machine.execRorZp b1 s
  | .rorAcc => Sys2Proof.Machine.execRorAcc s
  | .rorAbs b1 b2 => Sys2Proof.Machine.execRorAbs b1 b2 s
  | .rorZpx b1 => Sys2Proof.Machine.execRorZpx b1 s
  | .rorAbx b1 b2 => Sys2Proof.Machine.execRorAbx b1 b2 s
  | .jmpAbs b1 b2 => Sys2Proof.Machine.execJmpAbs b1 b2 s
  | .jmpInd b1 b2 => Sys2Proof.Machine.execJmpInd b1 b2 s
  | .jsr b1 b2 => Sys2Proof.Machine.execJsr b1 b2 s
  | .rts => Sys2Proof.Machine.execRts s
  | .rti => Sys2Proof.Machine.execRti s
  | .brk => Sys2Proof.Machine.execBrk s
  | .bcc b1 => Sys2Proof.Machine.execBcc b1 s
  | .bcs b1 => Sys2Proof.Machine.execBcs b1 s
  | .beq b1 => Sys2Proof.Machine.execBeq b1 s
  | .bmi b1 => Sys2Proof.Machine.execBmi b1 s
  | .bne b1 => Sys2Proof.Machine.execBne b1 s
  | .bpl b1 => Sys2Proof.Machine.execBpl b1 s
  | .bvc b1 => Sys2Proof.Machine.execBvc b1 s
  | .bvs b1 => Sys2Proof.Machine.execBvs b1 s
  | .clc => Sys2Proof.Machine.execClc s
  | .cld => Sys2Proof.Machine.execCld s
  | .cli => Sys2Proof.Machine.execCli s
  | .clv => Sys2Proof.Machine.execClv s
  | .sec => Sys2Proof.Machine.execSec s
  | .sed => Sys2Proof.Machine.execSed s
  | .sei => Sys2Proof.Machine.execSei s
  | .nop => Sys2Proof.Machine.execNop s
  | .raw op => Sys2Proof.Machine.execRaw op s

end Sys2Proof.Machine
end

