-- ==== Sys2Proof/Machine/Step.lean ====
section
/-! DEFINITION. One step of the block: fetch, decode, run the instruction's meaning. -/

namespace Sys2Proof.Machine

/-- One decode step at the cursor (R120): the opcode byte is read and classified, the bounds check made,
the operand bytes read, and the instruction's meaning run. -/
def step (s : State) : Host.Outcome State Fault Refusal :=
  whenEnabled s <|
    match fetch s with
    | .error f => .fault f
    | .ok bytes =>
      match decode bytes with
      | .ok (i, _) => exec i s
      | .error e => stopDecoding e s

/-- The state with an instruction, given as a number (bit 0 the least significant bit of the opcode byte,
R60), stored at the cursor: three bytes, those above `nbits` zero, `N` raised to cover them, and the
pass running, as the host leaves it when it starts a pass over a buffer that holds them (R230; log
entry 2). -/
def State.withFetchWord (s : State) (nbits w : Nat) : State :=
  let v := w % 2 ^ nbits
  { s with
    buf := s.buf.load s.cur [BitVec.ofNat 8 v, BitVec.ofNat 8 (v / 2 ^ 8), BitVec.ofNat 8 (v / 2 ^ 16)]
    n := max s.n (s.cur + 3)
    status := .running }

end Sys2Proof.Machine
end

