-- ==== Sys2Proof/Machine/Boot.lean ====
section
/-! DEFINITION. The host's side of the block: starting a pass (R230, R234) and what must happen before one (R219,
R233). These are inputs to the block, not steps of it. -/

namespace Sys2Proof.Machine

/-- The start of a pass, the block's reset (R33, R230): the host supplies the binary's bytes and `BASE`, and
the parameter `RAW_MNEMONIC`. The contents of `err` are unspecified (R26): they are an argument, so that
a statement about a pass holds for every value of them. -/
def startPass (bytes : List Byte) (base : Addr) (rawMnemonic : Text) (err : ErrRecord) : State where
  buf := Memory.load [] 0 bytes
  n := bytes.length
  base := base
  rawMnemonic := rawMnemonic
  cur := 0
  status := startStatus bytes.length
  err := err
  out := []

/-- The errors of the host, each before any pass; the block has no state that records them (R211, R219). -/
inductive HostError where
  | metadataLoad
  | binaryOpen
  deriving DecidableEq, Repr

/-- The boot sequence (R233): the metadata table must load, then the binary must be read; on the first
failure no pass starts. The table's contents are not an input: the block never reads it (R29). -/
def boot (metadataLoaded : Bool) (binary : Option (List Byte)) (base : Addr) (rawMnemonic : Text)
    (err : ErrRecord) : Except HostError State :=
  if metadataLoaded then
    match binary with
    | some bytes => .ok (startPass bytes base rawMnemonic err)
    | none => .error .binaryOpen
  else .error .metadataLoad

end Sys2Proof.Machine
end

