-- ==== Sys2Proof/Machine/DecodeOne.lean ====
section
/-! DEFINITION. `decodeOne` and the pass step as the spec's own pseudocode writes them (R113, R120), over the
opcode map alone. `step` reaches the same result through `Instr` and the meanings; a statement says
that the two agree in every state. -/

namespace Sys2Proof.Machine

/-- What `decodeOne` returns or raises (R100, R112). -/
inductive Decoded where
  | line (text : Text) (len : Nat)
  | truncated (info : ErrRecord)
  deriving DecidableEq, Repr

/-- An operand read, made only if the instruction has that byte: `(len >= k) ? MemRead(a, 1) : none` (R113). -/
def readIf (needed : Bool) (s : State) (a : Nat) : Except Fault (Option Byte) :=
  if needed then
    match memRead s a with
    | .ok b => .ok (some b)
    | .error f => .error f
  else .ok none

/-- `decodeOne(BUF, cur)` (R113), reading `BUF`, `N`, `BASE`, `RAW_MNEMONIC` and `cur` from the state. A call
with `cur >= N` has no result (R100). -/
def decodeOne (s : State) : Host.Outcome Decoded Fault Refusal :=
  if s.cur ≥ s.n then .refused .cursorOutsideBuffer
  else
    match memRead s s.cur with
    | .error f => .fault f
    | .ok op =>
      let mn := (classify op).1
      let mode := (classify op).2
      let len := mode.len
      if s.cur + len > s.n then
        .next (.truncated { cur := s.cur, opcode := op, need := BitVec.ofNat 2 len, avail := s.n - s.cur })
      else
        match readIf (2 ≤ len) s (s.cur + 1), readIf (len = 3) s (s.cur + 2) with
        | .ok b1, .ok b2 => .next (.line (formatLine s.base s.rawMnemonic s.cur mn mode op b1 b2) len)
        | .error f, _ => .fault f
        | _, .error f => .fault f

/-- The pass step (R120), "enabled only when status = RUNNING". -/
def passStep (s : State) : Result :=
  whenEnabled s <|
    match decodeOne s with
    | .next (.line text len) => .next (advance len (emit text s))
    | .next (.truncated info) => .next { s with err := info, status := .truncated }
    | .fault f => .fault f
    | .refused r => .refused r

end Sys2Proof.Machine
end

