-- ==== Sys2Proof/Safety.lean ====
section
/-! DEFINITION. The terms claims use: the invariant of a pass, the listing a pass produces, what one opcode row
says of its instruction, and the premises of 92_eei_decisions.md. -/

namespace Sys2Proof.Safety

open Sys2Proof.Machine

/-! ## The invariant -/

/-- The buffer is in canonical form and lists no offset at or past `N` (R21; log entry 1). -/
abbrev BufWf (s : State) : Prop := Memory.wf s.buf ∧ ∀ c ∈ s.buf, c.1 < s.n

/-- "`0 <= cursor <= buffer.length`" (R22), `RUNNING` below `N`, `DONE` at `N`, and never the reserved
status (R25, R120). -/
abbrev CursorWf (s : State) : Prop :=
  s.cur ≤ s.n ∧ (s.status = .running → s.cur < s.n) ∧ (s.status = .done → s.cur = s.n) ∧
    s.status ≠ .reserved

/-- The error record describes the instruction at the cursor when `status = TRUNCATED` (R26, R212). -/
abbrev ErrWf (s : State) : Prop :=
  s.status = .truncated →
    s.cur < s.n ∧ s.err.cur = s.cur ∧ s.err.opcode = s.buf.read s.cur ∧
      s.err.need.toNat = lenOf s.err.opcode ∧ s.err.avail = s.n - s.cur ∧ s.err.avail < s.err.need.toNat

/-- The invariant of a pass. -/
abbrev Inv (s : State) : Prop := BufWf s ∧ CursorWf s ∧ ErrWf s

/-- A decode step is enabled: "`status = RUNNING` implies `cur < N`" (R120). -/
abbrev Ready (s : State) : Prop := s.status = .running ∧ s.cur < s.n

/-! ## The listing of a pass -/

/-- The lines of `k` decode steps from cursor `c` on, and the cursor after them; `none` if one of them has
no line. Only `BUF`, `N`, `BASE` and `RAW_MNEMONIC` of the state are used. -/
def sweep (s : State) : Nat → Nat → Option (List Text × Nat)
  | 0, c => some ([], c)
  | k + 1, c =>
    match decodeOne { s with cur := c } with
    | .next (.line text len) =>
      match sweep s k (c + len) with
      | some (lines, e) => some (text :: lines, e)
      | none => none
    | _ => none

/-- The output is "address-ascending and gapless" (R27): its lines are those of the decode steps from
cursor 0, each starting where the one before it ended (R122), and the last ends at the cursor. -/
abbrev Listing (s : State) : Prop := sweep s s.out.length 0 = some (s.out, s.cur)

/-- The line of an instruction at cursor `c` (R109), with the bytes of its encoding. -/
def lineOf (base : Addr) (rawMnemonic : Text) (c : Nat) (i : Instr) : Text :=
  formatLine base rawMnemonic c i.mnemonic i.mode ((encode i).headD 0) (encode i)[1]? (encode i)[2]?

/-- The lines of instructions laid out from cursor `c` on without gaps (R122). -/
def linesOf (base : Addr) (rawMnemonic : Text) : Nat → List Instr → List Text
  | _, [] => []
  | c, i :: is => lineOf base rawMnemonic c i :: linesOf base rawMnemonic (c + i.len) is

/-- An ASCII string without a line terminator (R27): no character past 0x7F, no line feed and no carriage
return. -/
abbrev PlainAscii (t : Text) : Prop := ∀ c ∈ t, c.toNat < 0x80 ∧ c ≠ '\n' ∧ c ≠ '\r'

/-! ## What a row of the opcode table says -/

/-- The bytes stand in the buffer at the cursor. -/
abbrev AtCursor (s : State) (bytes : List Byte) : Prop :=
  ∀ k, k < bytes.length → s.buf.read (s.cur + k) = bytes.getD k 0

/-- The three byte slots of a line, space-padded, with single spaces between (R106, R109). -/
def byteColumns : List Byte → Text
  | [op] => hex2 op ++ "      ".toList
  | [op, b1] => hex2 op ++ " ".toList ++ hex2 b1 ++ "   ".toList
  | [op, b1, b2] => hex2 op ++ " ".toList ++ hex2 b1 ++ " ".toList ++ hex2 b2
  | _ => []

/-- The state after the instruction with these bytes has been rendered with this text after the byte
slots: one line more, the cursor past the bytes, `DONE` exactly at `N`, and nothing else changed (R113,
R120). -/
def rendered (s : State) (bytes : List Byte) (text : Text) : State :=
  { s with
    out := s.out ++
      [hex4 (BitVec.ofNat 16 (s.base.toNat + s.cur)) ++ " ".toList ++ byteColumns bytes ++ " ".toList ++ text]
    cur := s.cur + bytes.length
    status := if s.cur + bytes.length = s.n then .done else .running }

/-- The state after `TruncatedInstruction(cur, op, need, N - cur)`: the error record and the status, and
nothing else changed (R212). -/
def cutOff (s : State) (op : Byte) (need : Nat) : State :=
  { s with
    err := { cur := s.cur, opcode := op, need := BitVec.ofNat 2 need, avail := s.n - s.cur }
    status := .truncated }

/-- The instruction is encoded by these bytes and no others, and wherever they lie inside the buffer it
completes: its meaning, and the step that finds the bytes at the cursor, append the line with `text s`
after the byte slots. -/
def RendersAs (i : Instr) (bytes : List Byte) (text : State → Text) : Prop :=
  decode bytes = .ok (i, []) ∧ encode i = bytes ∧
    ∀ s : State, Ready s → s.cur + bytes.length ≤ s.n →
      exec i s = .next (rendered s bytes (text s)) ∧
        (AtCursor s bytes → step s = .next (rendered s bytes (text s)))

/-- Where the instruction's `len` bytes reach past the buffer, its meaning, and the step that finds its
opcode byte at the cursor, take the truncated-instruction error. -/
def CutShort (i : Instr) (op : Byte) (len : Nat) : Prop :=
  ∀ s : State, Ready s → s.n < s.cur + len →
    exec i s = .next (cutOff s op len) ∧
      (s.buf.read s.cur = op → step s = .next (cutOff s op len))

/-- A row of length 2 or 3: its encoding and line, and its truncated-instruction error. -/
def Row (i : Instr) (bytes : List Byte) (text : Text) : Prop :=
  RendersAs i bytes (fun _ => text) ∧ CutShort i (bytes.headD 0) bytes.length

/-- A row of length 1, which has no operand and no error: its encoding and line. -/
def Row1 (i : Instr) (op : Byte) (text : Text) : Prop := RendersAs i [op] (fun _ => text)

/-- The text of a branch line: the mnemonic and the raw displacement byte, then the annotation with
`(BASE + cur + 2 + sext_8(b1)) mod 2^16` (R110, R111). -/
def branchText (mn : Text) (b1 : Byte) (s : State) : Text :=
  mn ++ " $".toList ++ hex2 b1 ++ "\t\t; $".toList ++
    hex4 (BitVec.ofInt 16 ((s.base.toNat : Int) + s.cur + 2 + sext8 b1))

/-- A row of mode `rel`: the opcode byte and a displacement. -/
def BranchRow (i : Instr) (op b1 : Byte) (mn : Text) : Prop :=
  RendersAs i [op, b1] (branchText mn b1) ∧ CutShort i op 2

/-! ## Premises of 92_eei_decisions.md -/

/-- `NoAddrWrap`: "`BASE + N <= 0x10000`" (D4). -/
abbrev NoAddrWrap (s : State) : Prop := s.base.toNat + s.n ≤ 0x10000

/-- The buffer fits a cursor of `width` bits: "`N < 2^CUR_BITS`" (D15). The width an implementation chooses
is the open constant `Config.curBits` (log entry 10). -/
abbrev FitsCursor (width : Nat) (s : State) : Prop := s.n < 2 ^ width

end Sys2Proof.Safety
end

