-- ==== Sys2Proof/Certificates/Slice0/Obligations.lean ====
section
/-! DEFINITION. The statements for the provers, taken from the spec's numbered rules. -/

open Sys2Proof Sys2Proof.Machine Sys2Proof.Safety

/-! ## The instructions: one statement for the rows of each family -/

/-- R130 to R135 (41_load_store.md), LDA LDX LDY STA STX STY: every opcode row, its encoding, line, completion and
truncation error. -/
def Obligations.LoadAndStoreRows : Prop :=
  ∀ b1 b2 : Byte,
    Row (.ldaIzx b1) [0xA1, b1] ("LDA ($".toList ++ hex2 b1 ++ ",X)".toList) ∧
    Row (.ldaZp b1) [0xA5, b1] ("LDA $".toList ++ hex2 b1) ∧
    Row (.ldaImm b1) [0xA9, b1] ("LDA #$".toList ++ hex2 b1) ∧
    Row (.ldaAbs b1 b2) [0xAD, b1, b2] ("LDA $".toList ++ hex2 b2 ++ hex2 b1) ∧
    Row (.ldaIzy b1) [0xB1, b1] ("LDA ($".toList ++ hex2 b1 ++ "),Y".toList) ∧
    Row (.ldaZpx b1) [0xB5, b1] ("LDA $".toList ++ hex2 b1 ++ ",X".toList) ∧
    Row (.ldaAby b1 b2) [0xB9, b1, b2] ("LDA $".toList ++ hex2 b2 ++ hex2 b1 ++ ",Y".toList) ∧
    Row (.ldaAbx b1 b2) [0xBD, b1, b2] ("LDA $".toList ++ hex2 b2 ++ hex2 b1 ++ ",X".toList) ∧
    Row (.ldxImm b1) [0xA2, b1] ("LDX #$".toList ++ hex2 b1) ∧
    Row (.ldxZp b1) [0xA6, b1] ("LDX $".toList ++ hex2 b1) ∧
    Row (.ldxAbs b1 b2) [0xAE, b1, b2] ("LDX $".toList ++ hex2 b2 ++ hex2 b1) ∧
    Row (.ldxZpy b1) [0xB6, b1] ("LDX $".toList ++ hex2 b1 ++ ",Y".toList) ∧
    Row (.ldxAby b1 b2) [0xBE, b1, b2] ("LDX $".toList ++ hex2 b2 ++ hex2 b1 ++ ",Y".toList) ∧
    Row (.ldyImm b1) [0xA0, b1] ("LDY #$".toList ++ hex2 b1) ∧
    Row (.ldyZp b1) [0xA4, b1] ("LDY $".toList ++ hex2 b1) ∧
    Row (.ldyAbs b1 b2) [0xAC, b1, b2] ("LDY $".toList ++ hex2 b2 ++ hex2 b1) ∧
    Row (.ldyZpx b1) [0xB4, b1] ("LDY $".toList ++ hex2 b1 ++ ",X".toList) ∧
    Row (.ldyAbx b1 b2) [0xBC, b1, b2] ("LDY $".toList ++ hex2 b2 ++ hex2 b1 ++ ",X".toList) ∧
    Row (.staIzx b1) [0x81, b1] ("STA ($".toList ++ hex2 b1 ++ ",X)".toList) ∧
    Row (.staZp b1) [0x85, b1] ("STA $".toList ++ hex2 b1) ∧
    Row (.staAbs b1 b2) [0x8D, b1, b2] ("STA $".toList ++ hex2 b2 ++ hex2 b1) ∧
    Row (.staIzy b1) [0x91, b1] ("STA ($".toList ++ hex2 b1 ++ "),Y".toList) ∧
    Row (.staZpx b1) [0x95, b1] ("STA $".toList ++ hex2 b1 ++ ",X".toList) ∧
    Row (.staAby b1 b2) [0x99, b1, b2] ("STA $".toList ++ hex2 b2 ++ hex2 b1 ++ ",Y".toList) ∧
    Row (.staAbx b1 b2) [0x9D, b1, b2] ("STA $".toList ++ hex2 b2 ++ hex2 b1 ++ ",X".toList) ∧
    Row (.stxZp b1) [0x86, b1] ("STX $".toList ++ hex2 b1) ∧
    Row (.stxAbs b1 b2) [0x8E, b1, b2] ("STX $".toList ++ hex2 b2 ++ hex2 b1) ∧
    Row (.stxZpy b1) [0x96, b1] ("STX $".toList ++ hex2 b1 ++ ",Y".toList) ∧
    Row (.styZp b1) [0x84, b1] ("STY $".toList ++ hex2 b1) ∧
    Row (.styAbs b1 b2) [0x8C, b1, b2] ("STY $".toList ++ hex2 b2 ++ hex2 b1) ∧
    Row (.styZpx b1) [0x94, b1] ("STY $".toList ++ hex2 b1 ++ ",X".toList)

/-- R140 to R149 (42_transfer_stack.md), TAX TAY TSX TXA TXS TYA PHA PHP PLA PLP: every opcode row, its encoding, line and
completion. -/
def Obligations.TransferAndStackRows : Prop :=
  Row1 .tax 0xAA "TAX".toList ∧
  Row1 .tay 0xA8 "TAY".toList ∧
  Row1 .tsx 0xBA "TSX".toList ∧
  Row1 .txa 0x8A "TXA".toList ∧
  Row1 .txs 0x9A "TXS".toList ∧
  Row1 .tya 0x98 "TYA".toList ∧
  Row1 .pha 0x48 "PHA".toList ∧
  Row1 .php 0x08 "PHP".toList ∧
  Row1 .pla 0x68 "PLA".toList ∧
  Row1 .plp 0x28 "PLP".toList

/-- R150 to R154 and R156 (43_arith_logic.md), ADC SBC AND ORA EOR CMP: every opcode row, its encoding, line, completion and
truncation error. -/
def Obligations.AccumulatorArithmeticRows : Prop :=
  ∀ b1 b2 : Byte,
    Row (.adcIzx b1) [0x61, b1] ("ADC ($".toList ++ hex2 b1 ++ ",X)".toList) ∧
    Row (.adcZp b1) [0x65, b1] ("ADC $".toList ++ hex2 b1) ∧
    Row (.adcImm b1) [0x69, b1] ("ADC #$".toList ++ hex2 b1) ∧
    Row (.adcAbs b1 b2) [0x6D, b1, b2] ("ADC $".toList ++ hex2 b2 ++ hex2 b1) ∧
    Row (.adcIzy b1) [0x71, b1] ("ADC ($".toList ++ hex2 b1 ++ "),Y".toList) ∧
    Row (.adcZpx b1) [0x75, b1] ("ADC $".toList ++ hex2 b1 ++ ",X".toList) ∧
    Row (.adcAby b1 b2) [0x79, b1, b2] ("ADC $".toList ++ hex2 b2 ++ hex2 b1 ++ ",Y".toList) ∧
    Row (.adcAbx b1 b2) [0x7D, b1, b2] ("ADC $".toList ++ hex2 b2 ++ hex2 b1 ++ ",X".toList) ∧
    Row (.sbcIzx b1) [0xE1, b1] ("SBC ($".toList ++ hex2 b1 ++ ",X)".toList) ∧
    Row (.sbcZp b1) [0xE5, b1] ("SBC $".toList ++ hex2 b1) ∧
    Row (.sbcImm b1) [0xE9, b1] ("SBC #$".toList ++ hex2 b1) ∧
    Row (.sbcAbs b1 b2) [0xED, b1, b2] ("SBC $".toList ++ hex2 b2 ++ hex2 b1) ∧
    Row (.sbcIzy b1) [0xF1, b1] ("SBC ($".toList ++ hex2 b1 ++ "),Y".toList) ∧
    Row (.sbcZpx b1) [0xF5, b1] ("SBC $".toList ++ hex2 b1 ++ ",X".toList) ∧
    Row (.sbcAby b1 b2) [0xF9, b1, b2] ("SBC $".toList ++ hex2 b2 ++ hex2 b1 ++ ",Y".toList) ∧
    Row (.sbcAbx b1 b2) [0xFD, b1, b2] ("SBC $".toList ++ hex2 b2 ++ hex2 b1 ++ ",X".toList) ∧
    Row (.andIzx b1) [0x21, b1] ("AND ($".toList ++ hex2 b1 ++ ",X)".toList) ∧
    Row (.andZp b1) [0x25, b1] ("AND $".toList ++ hex2 b1) ∧
    Row (.andImm b1) [0x29, b1] ("AND #$".toList ++ hex2 b1) ∧
    Row (.andAbs b1 b2) [0x2D, b1, b2] ("AND $".toList ++ hex2 b2 ++ hex2 b1) ∧
    Row (.andIzy b1) [0x31, b1] ("AND ($".toList ++ hex2 b1 ++ "),Y".toList) ∧
    Row (.andZpx b1) [0x35, b1] ("AND $".toList ++ hex2 b1 ++ ",X".toList) ∧
    Row (.andAby b1 b2) [0x39, b1, b2] ("AND $".toList ++ hex2 b2 ++ hex2 b1 ++ ",Y".toList) ∧
    Row (.andAbx b1 b2) [0x3D, b1, b2] ("AND $".toList ++ hex2 b2 ++ hex2 b1 ++ ",X".toList) ∧
    Row (.oraIzx b1) [0x01, b1] ("ORA ($".toList ++ hex2 b1 ++ ",X)".toList) ∧
    Row (.oraZp b1) [0x05, b1] ("ORA $".toList ++ hex2 b1) ∧
    Row (.oraImm b1) [0x09, b1] ("ORA #$".toList ++ hex2 b1) ∧
    Row (.oraAbs b1 b2) [0x0D, b1, b2] ("ORA $".toList ++ hex2 b2 ++ hex2 b1) ∧
    Row (.oraIzy b1) [0x11, b1] ("ORA ($".toList ++ hex2 b1 ++ "),Y".toList) ∧
    Row (.oraZpx b1) [0x15, b1] ("ORA $".toList ++ hex2 b1 ++ ",X".toList) ∧
    Row (.oraAby b1 b2) [0x19, b1, b2] ("ORA $".toList ++ hex2 b2 ++ hex2 b1 ++ ",Y".toList) ∧
    Row (.oraAbx b1 b2) [0x1D, b1, b2] ("ORA $".toList ++ hex2 b2 ++ hex2 b1 ++ ",X".toList) ∧
    Row (.eorIzx b1) [0x41, b1] ("EOR ($".toList ++ hex2 b1 ++ ",X)".toList) ∧
    Row (.eorZp b1) [0x45, b1] ("EOR $".toList ++ hex2 b1) ∧
    Row (.eorImm b1) [0x49, b1] ("EOR #$".toList ++ hex2 b1) ∧
    Row (.eorAbs b1 b2) [0x4D, b1, b2] ("EOR $".toList ++ hex2 b2 ++ hex2 b1) ∧
    Row (.eorIzy b1) [0x51, b1] ("EOR ($".toList ++ hex2 b1 ++ "),Y".toList) ∧
    Row (.eorZpx b1) [0x55, b1] ("EOR $".toList ++ hex2 b1 ++ ",X".toList) ∧
    Row (.eorAby b1 b2) [0x59, b1, b2] ("EOR $".toList ++ hex2 b2 ++ hex2 b1 ++ ",Y".toList) ∧
    Row (.eorAbx b1 b2) [0x5D, b1, b2] ("EOR $".toList ++ hex2 b2 ++ hex2 b1 ++ ",X".toList) ∧
    Row (.cmpIzx b1) [0xC1, b1] ("CMP ($".toList ++ hex2 b1 ++ ",X)".toList) ∧
    Row (.cmpZp b1) [0xC5, b1] ("CMP $".toList ++ hex2 b1) ∧
    Row (.cmpImm b1) [0xC9, b1] ("CMP #$".toList ++ hex2 b1) ∧
    Row (.cmpAbs b1 b2) [0xCD, b1, b2] ("CMP $".toList ++ hex2 b2 ++ hex2 b1) ∧
    Row (.cmpIzy b1) [0xD1, b1] ("CMP ($".toList ++ hex2 b1 ++ "),Y".toList) ∧
    Row (.cmpZpx b1) [0xD5, b1] ("CMP $".toList ++ hex2 b1 ++ ",X".toList) ∧
    Row (.cmpAby b1 b2) [0xD9, b1, b2] ("CMP $".toList ++ hex2 b2 ++ hex2 b1 ++ ",Y".toList) ∧
    Row (.cmpAbx b1 b2) [0xDD, b1, b2] ("CMP $".toList ++ hex2 b2 ++ hex2 b1 ++ ",X".toList)

/-- R155 and R157 to R160 (43_arith_logic.md), BIT CPX CPY INC DEC: every opcode row, its encoding, line, completion and
truncation error. -/
def Obligations.BitCompareAndMemoryCountRows : Prop :=
  ∀ b1 b2 : Byte,
    Row (.bitZp b1) [0x24, b1] ("BIT $".toList ++ hex2 b1) ∧
    Row (.bitAbs b1 b2) [0x2C, b1, b2] ("BIT $".toList ++ hex2 b2 ++ hex2 b1) ∧
    Row (.cpxImm b1) [0xE0, b1] ("CPX #$".toList ++ hex2 b1) ∧
    Row (.cpxZp b1) [0xE4, b1] ("CPX $".toList ++ hex2 b1) ∧
    Row (.cpxAbs b1 b2) [0xEC, b1, b2] ("CPX $".toList ++ hex2 b2 ++ hex2 b1) ∧
    Row (.cpyImm b1) [0xC0, b1] ("CPY #$".toList ++ hex2 b1) ∧
    Row (.cpyZp b1) [0xC4, b1] ("CPY $".toList ++ hex2 b1) ∧
    Row (.cpyAbs b1 b2) [0xCC, b1, b2] ("CPY $".toList ++ hex2 b2 ++ hex2 b1) ∧
    Row (.incZp b1) [0xE6, b1] ("INC $".toList ++ hex2 b1) ∧
    Row (.incAbs b1 b2) [0xEE, b1, b2] ("INC $".toList ++ hex2 b2 ++ hex2 b1) ∧
    Row (.incZpx b1) [0xF6, b1] ("INC $".toList ++ hex2 b1 ++ ",X".toList) ∧
    Row (.incAbx b1 b2) [0xFE, b1, b2] ("INC $".toList ++ hex2 b2 ++ hex2 b1 ++ ",X".toList) ∧
    Row (.decZp b1) [0xC6, b1] ("DEC $".toList ++ hex2 b1) ∧
    Row (.decAbs b1 b2) [0xCE, b1, b2] ("DEC $".toList ++ hex2 b2 ++ hex2 b1) ∧
    Row (.decZpx b1) [0xD6, b1] ("DEC $".toList ++ hex2 b1 ++ ",X".toList) ∧
    Row (.decAbx b1 b2) [0xDE, b1, b2] ("DEC $".toList ++ hex2 b2 ++ hex2 b1 ++ ",X".toList)

/-- R161 to R164 (43_arith_logic.md), INX INY DEX DEY: every opcode row, its encoding, line and completion. -/
def Obligations.IndexCountRows : Prop :=
  Row1 .inx 0xE8 "INX".toList ∧
  Row1 .iny 0xC8 "INY".toList ∧
  Row1 .dex 0xCA "DEX".toList ∧
  Row1 .dey 0x88 "DEY".toList

/-- R170 to R173 (44_shift_rotate.md), ASL LSR ROL ROR: every opcode row, its encoding, line, completion and truncation
error; the accumulator form has no operand and no error. -/
def Obligations.ShiftAndRotateRows : Prop :=
  ∀ b1 b2 : Byte,
    Row (.aslZp b1) [0x06, b1] ("ASL $".toList ++ hex2 b1) ∧
    Row1 .aslAcc 0x0A "ASL".toList ∧
    Row (.aslAbs b1 b2) [0x0E, b1, b2] ("ASL $".toList ++ hex2 b2 ++ hex2 b1) ∧
    Row (.aslZpx b1) [0x16, b1] ("ASL $".toList ++ hex2 b1 ++ ",X".toList) ∧
    Row (.aslAbx b1 b2) [0x1E, b1, b2] ("ASL $".toList ++ hex2 b2 ++ hex2 b1 ++ ",X".toList) ∧
    Row (.lsrZp b1) [0x46, b1] ("LSR $".toList ++ hex2 b1) ∧
    Row1 .lsrAcc 0x4A "LSR".toList ∧
    Row (.lsrAbs b1 b2) [0x4E, b1, b2] ("LSR $".toList ++ hex2 b2 ++ hex2 b1) ∧
    Row (.lsrZpx b1) [0x56, b1] ("LSR $".toList ++ hex2 b1 ++ ",X".toList) ∧
    Row (.lsrAbx b1 b2) [0x5E, b1, b2] ("LSR $".toList ++ hex2 b2 ++ hex2 b1 ++ ",X".toList) ∧
    Row (.rolZp b1) [0x26, b1] ("ROL $".toList ++ hex2 b1) ∧
    Row1 .rolAcc 0x2A "ROL".toList ∧
    Row (.rolAbs b1 b2) [0x2E, b1, b2] ("ROL $".toList ++ hex2 b2 ++ hex2 b1) ∧
    Row (.rolZpx b1) [0x36, b1] ("ROL $".toList ++ hex2 b1 ++ ",X".toList) ∧
    Row (.rolAbx b1 b2) [0x3E, b1, b2] ("ROL $".toList ++ hex2 b2 ++ hex2 b1 ++ ",X".toList) ∧
    Row (.rorZp b1) [0x66, b1] ("ROR $".toList ++ hex2 b1) ∧
    Row1 .rorAcc 0x6A "ROR".toList ∧
    Row (.rorAbs b1 b2) [0x6E, b1, b2] ("ROR $".toList ++ hex2 b2 ++ hex2 b1) ∧
    Row (.rorZpx b1) [0x76, b1] ("ROR $".toList ++ hex2 b1 ++ ",X".toList) ∧
    Row (.rorAbx b1 b2) [0x7E, b1, b2] ("ROR $".toList ++ hex2 b2 ++ hex2 b1 ++ ",X".toList)

/-- R180 to R184 (45_control.md), JMP JSR RTS RTI BRK: every opcode row, its encoding, line without annotation, completion
and truncation error. JMP (0x6C) is the only `ind` instruction, and BRK has length 1. -/
def Obligations.JumpReturnAndBreakRows : Prop :=
  (∀ op : Byte, (classify op).2 = .ind ↔ op = 0x6C) ∧ ∀ b1 b2 : Byte,
    Row (.jmpAbs b1 b2) [0x4C, b1, b2] ("JMP $".toList ++ hex2 b2 ++ hex2 b1) ∧
    Row (.jmpInd b1 b2) [0x6C, b1, b2] ("JMP ($".toList ++ hex2 b2 ++ hex2 b1 ++ ")".toList) ∧
    Row (.jsr b1 b2) [0x20, b1, b2] ("JSR $".toList ++ hex2 b2 ++ hex2 b1) ∧
    Row1 .rts 0x60 "RTS".toList ∧
    Row1 .rti 0x40 "RTI".toList ∧
    Row1 .brk 0x00 "BRK".toList

/-- R185 to R192 (45_control.md), the eight relative branches: encoding, line with the raw displacement byte and the
annotated target modulo 2^16, completion and truncation error. -/
def Obligations.BranchRows : Prop :=
  ∀ b1 : Byte,
    BranchRow (.bcc b1) 0x90 b1 "BCC".toList ∧
    BranchRow (.bcs b1) 0xB0 b1 "BCS".toList ∧
    BranchRow (.beq b1) 0xF0 b1 "BEQ".toList ∧
    BranchRow (.bmi b1) 0x30 b1 "BMI".toList ∧
    BranchRow (.bne b1) 0xD0 b1 "BNE".toList ∧
    BranchRow (.bpl b1) 0x10 b1 "BPL".toList ∧
    BranchRow (.bvc b1) 0x50 b1 "BVC".toList ∧
    BranchRow (.bvs b1) 0x70 b1 "BVS".toList

/-- R195 to R202 (46_flags_misc.md), CLC CLD CLI CLV SEC SED SEI NOP: every opcode row, its encoding, line and
completion. -/
def Obligations.FlagAndNoOperationRows : Prop :=
  Row1 .clc 0x18 "CLC".toList ∧
  Row1 .cld 0xD8 "CLD".toList ∧
  Row1 .cli 0x58 "CLI".toList ∧
  Row1 .clv 0xB8 "CLV".toList ∧
  Row1 .sec 0x38 "SEC".toList ∧
  Row1 .sed 0xF8 "SED".toList ∧
  Row1 .sei 0x78 "SEI".toList ∧
  Row1 .nop 0xEA "NOP".toList

/-- R205 (47_raw_data.md): each of the 105 undefined bytes is a line of its own, `RAW_MNEMONIC` and the byte, of
length 1 and never an error; and the decoder gives the raw data byte for no other byte. -/
def Obligations.RawDataByteRows : Prop :=
  (∀ op ∈ undefinedBytes, RendersAs (.raw op) [op] (fun s => s.rawMnemonic ++ " $".toList ++ hex2 op)) ∧
    ∀ op rest op' rest', decode (op :: rest) = .ok (.raw op', rest') → op' = op ∧ rest' = rest ∧ op ∈ undefinedBytes

/-! ## Classifier, widths and operand text -/

/-- Words written out from the rows of spec/opcode_table.json, at least one of each family, decode to the
instructions they stand for. -/
def Obligations.PublishedWordsDecode : Prop :=
  decodeTableWord 16 0b00000001_10101001 = some (.ldaImm 0x01) ∧
    decodeTableWord 24 0b00100000_00000000_10001101 = some (.staAbs 0x00 0x20) ∧
    decodeTableWord 16 0b00010000_10010110 = some (.stxZpy 0x10) ∧
    decodeTableWord 8 0b10011010 = some .txs ∧
    decodeTableWord 16 0b00100000_01100001 = some (.adcIzx 0x20) ∧
    decodeTableWord 16 0b00100000_11010001 = some (.cmpIzy 0x20) ∧
    decodeTableWord 8 0b00001010 = some .aslAcc ∧
    decodeTableWord 24 0b00010010_00110100_01111110 = some (.rorAbx 0x34 0x12) ∧
    decodeTableWord 24 0b11111111_11111100_01101100 = some (.jmpInd 0xFC 0xFF) ∧
    decodeTableWord 16 0b11111011_10010000 = some (.bcc 0xFB) ∧
    decodeTableWord 8 0b00000000 = some .brk ∧
    decodeTableWord 8 0b11101010 = some .nop ∧
    decodeTableWord 8 0b00000010 = some (.raw 0x02)

/-- R62: the instruction-width lookup; and its counts (the spec's own inference, 30_encoding.md section 5): 29 defined opcodes and 105 raw bytes have length 1, 74 have length 2 and
48 have length 3. -/
def Obligations.WidthTableAndCounts : Prop :=
  ([Mode.imp, .acc, .raw].map Mode.len = [1, 1, 1] ∧
    [Mode.imm, .zp, .zpx, .zpy, .rel, .izx, .izy].map Mode.len = [2, 2, 2, 2, 2, 2, 2] ∧
    [Mode.abs, .abx, .aby, .ind].map Mode.len = [3, 3, 3, 3]) ∧
    (let all := (List.range 256).map (BitVec.ofNat 8)
     all.countP (fun op => lenOf op = 1 ∧ op ∉ undefinedBytes) = 29 ∧
      all.countP (fun op => lenOf op = 1 ∧ op ∈ undefinedBytes) = 105 ∧
      all.countP (fun op => lenOf op = 2) = 74 ∧ all.countP (fun op => lenOf op = 3) = 48)

/-- R65, R66 and R74 to R78: length, operand text and assembly text of the modes of length 1 and 3, for any mnemonic
text `mn` and operand bytes; `ind` belongs to 0x6C JMP alone; the default `RAW_MNEMONIC` is `.byte`. -/
def Obligations.OneAndThreeByteModes : Prop :=
  ∀ (mn : Text) (op b1 b2 : Byte),
    (Mode.imp.len = 1 ∧ asmText mn (opText .imp op none none) = mn) ∧
    (Mode.acc.len = 1 ∧ asmText mn (opText .acc op none none) = mn) ∧
    (Mode.abs.len = 3 ∧ asmText mn (opText .abs op (some b1) (some b2)) =
      mn ++ " $".toList ++ hex2 b2 ++ hex2 b1) ∧
    (Mode.abx.len = 3 ∧ asmText mn (opText .abx op (some b1) (some b2)) =
      mn ++ " $".toList ++ hex2 b2 ++ hex2 b1 ++ ",X".toList) ∧
    (Mode.aby.len = 3 ∧ asmText mn (opText .aby op (some b1) (some b2)) =
      mn ++ " $".toList ++ hex2 b2 ++ hex2 b1 ++ ",Y".toList) ∧
    (Mode.ind.len = 3 ∧ asmText mn (opText .ind op (some b1) (some b2)) =
      mn ++ " ($".toList ++ hex2 b2 ++ hex2 b1 ++ ")".toList ∧
      ((classify op).2 = .ind ↔ op = 0x6C) ∧ classify 0x6C = (.jmp, .ind)) ∧
    (Mode.raw.len = 1 ∧ Config.defaultRawMnemonic = ".byte".toList ∧ mnemonicText mn .raw = mn ∧ asmText mn (opText .raw op none none) =
      mn ++ " $".toList ++ hex2 op)

/-- R67 to R73: length, operand text and assembly text of the modes of length 2, for any mnemonic text `mn` and operand
byte; `zpy` belongs to 0x96 STX and 0xB6 LDX alone, and `rel` shows the raw displacement byte and carries the annotation. -/
def Obligations.TwoByteModes : Prop :=
  ∀ (mn : Text) (op b1 : Byte) (base : Addr) (cur : Nat),
    (Mode.imm.len = 2 ∧ asmText mn (opText .imm op (some b1) none) = mn ++ " #$".toList ++ hex2 b1) ∧
    (Mode.zp.len = 2 ∧ asmText mn (opText .zp op (some b1) none) = mn ++ " $".toList ++ hex2 b1) ∧
    (Mode.zpx.len = 2 ∧ asmText mn (opText .zpx op (some b1) none) = mn ++ " $".toList ++ hex2 b1 ++ ",X".toList) ∧
    (Mode.zpy.len = 2 ∧ asmText mn (opText .zpy op (some b1) none) = mn ++ " $".toList ++ hex2 b1 ++ ",Y".toList ∧
      ((classify op).2 = .zpy ↔ op = 0x96 ∨ op = 0xB6) ∧ classify 0x96 = (.stx, .zpy) ∧
        classify 0xB6 = (.ldx, .zpy)) ∧
    (Mode.rel.len = 2 ∧ asmText mn (opText .rel op (some b1) none) = mn ++ " $".toList ++ hex2 b1 ∧
      annotation base cur .rel (some b1) =
        "\t\t; $".toList ++ hex4 (BitVec.ofInt 16 ((base.toNat : Int) + cur + 2 + sext8 b1))) ∧
    (Mode.izx.len = 2 ∧ asmText mn (opText .izx op (some b1) none) = mn ++ " ($".toList ++ hex2 b1 ++ ",X)".toList) ∧
    (Mode.izy.len = 2 ∧ asmText mn (opText .izy op (some b1) none) = mn ++ " ($".toList ++ hex2 b1 ++ "),Y".toList)

/-- R80: the 56 mnemonics and their texts, three capital letters each; the raw data byte is the only
pseudo-instruction beside them. -/
def Obligations.MnemonicTexts : Prop :=
  ∀ raw : Text,
    let all : List Mnemonic :=
      [.adc, .and, .asl, .bcc, .bcs, .beq, .bit, .bmi, .bne, .bpl, .brk, .bvc, .bvs, .clc] ++
      [.cld, .cli, .clv, .cmp, .cpx, .cpy, .dec, .dex, .dey, .eor, .inc, .inx, .iny, .jmp] ++
      [.jsr, .lda, .ldx, .ldy, .lsr, .nop, .ora, .pha, .php, .pla, .plp, .rol, .ror, .rti] ++
      [.rts, .sbc, .sec, .sed, .sei, .sta, .stx, .sty, .tax, .tay, .tsx, .txa, .txs, .tya]
    let texts : List String :=
      ["ADC", "AND", "ASL", "BCC", "BCS", "BEQ", "BIT", "BMI", "BNE", "BPL", "BRK", "BVC", "BVS", "CLC"] ++
      ["CLD", "CLI", "CLV", "CMP", "CPX", "CPY", "DEC", "DEX", "DEY", "EOR", "INC", "INX", "INY", "JMP"] ++
      ["JSR", "LDA", "LDX", "LDY", "LSR", "NOP", "ORA", "PHA", "PHP", "PLA", "PLP", "ROL", "ROR", "RTI"] ++
      ["RTS", "SBC", "SEC", "SED", "SEI", "STA", "STX", "STY", "TAX", "TAY", "TSX", "TXA", "TXS", "TYA"]
    all.length = 56 ∧ all.Nodup ∧ (∀ mn : Mnemonic, mn ∈ all ↔ mn ≠ .raw) ∧
      all.map (mnemonicText raw) = texts.map String.toList ∧
      ∀ mn ∈ all, (mnemonicText raw mn).length = 3 ∧ ∀ c ∈ mnemonicText raw mn, 'A' ≤ c ∧ c ≤ 'Z'

/-- Every well-formed instruction, with any bytes after it, is read back from its encoding; and what the decoder
reads is the encoding of a well-formed instruction of the classifier's mnemonic and mode (R81, R82), followed
by the bytes it leaves. -/
def Obligations.DecodeEncodeAgree : Prop :=
  (∀ (i : Instr) (rest : List Byte), i.WellFormed = true → decode (encode i ++ rest) = .ok (i, rest)) ∧
    ∀ (bytes rest : List Byte) (i : Instr), decode bytes = .ok (i, rest) →
      bytes = encode i ++ rest ∧ i.WellFormed = true ∧
        classify ((encode i).headD 0) = (i.mnemonic, i.mode)

/-- From R90 and R91: no opcode byte is refused; bytes fail to decode only for want of bytes, and then by name. -/
def Obligations.DecoderIsTotal : Prop :=
  ∀ (op : Byte) (rest : List Byte),
    (lenOf op ≤ rest.length + 1 → ∃ i, decode (op :: rest) = .ok (i, rest.drop (lenOf op - 1))) ∧
      (rest.length + 1 < lenOf op → decode (op :: rest) = .error (.truncated op (lenOf op) (rest.length + 1)))

/-! ## Numbers and the line -/

/-- From R11: `hex2` and `hex4` are two and four digits `0-9`, `A-F`, most significant first, and each spelling has one
value. -/
def Obligations.HexSpellingIsFaithful : Prop :=
  (∀ d : Char, d ∈ "0123456789ABCDEF".toList ↔ ∃ v : BitVec 4, hexDigit v = d) ∧
    (∀ v : BitVec 4, "0123456789ABCDEF".toList[v.toNat]? = some (hexDigit v)) ∧
    (∀ b : Byte, ∃ hi lo : BitVec 4, b = hi ++ lo ∧ hex2 b = [hexDigit hi, hexDigit lo]) ∧
    (∀ v : Addr, ∃ hi lo : Byte, v = hi ++ lo ∧ hex4 v = hex2 hi ++ hex2 lo) ∧
    (∀ b c : Byte, hex2 b = hex2 c → b = c) ∧ ∀ v w : Addr, hex4 v = hex4 w → v = w

/-- R110: in mode `rel` and its eight opcodes, of length 2, the target is the integer sum of the base, the cursor, the
length and the signed displacement, -128 to 127, reduced modulo 2^16. -/
def Obligations.BranchTargetFormula : Prop :=
  (∀ op : Byte, (classify op).2 = .rel ↔ op ∈ ([0x90, 0xB0, 0xF0, 0x30, 0xD0, 0x10, 0x50, 0x70] : List Byte)) ∧
    (∀ op : Byte, (classify op).2 = .rel → lenOf op = 2) ∧
    ∀ (base : Addr) (cur : Nat) (b1 : Byte),
      sext8 b1 = b1.toInt ∧ -128 ≤ sext8 b1 ∧ sext8 b1 ≤ 127 ∧
        ((branchTarget base cur 2 b1).toNat : Int) = ((base.toNat : Int) + cur + 2 + sext8 b1) % 2 ^ 16

/-- From D4 and D5: under `NoAddrWrap` the displayed address of every instruction is the plain sum `BASE + cur`, and a branch
target whose sum lies in 0 to 0xFFFF is that sum. -/
def Obligations.AddressesExactWithoutWrap : Prop :=
  ∀ (s : State) (b1 : Byte), NoAddrWrap s → s.cur < s.n →
    (dispAddr s.base s.cur).toNat = s.base.toNat + s.cur ∧
      (0 ≤ (s.base.toNat : Int) + s.cur + 2 + sext8 b1 → (s.base.toNat : Int) + s.cur + 2 + sext8 b1 ≤ 0xFFFF →
        ((branchTarget s.base s.cur 2 b1).toNat : Int) = s.base.toNat + s.cur + 2 + sext8 b1)

/-- R44: a two-byte operand is `b2:b1`, the second byte read the high byte; the text prints it high byte first, and the byte
slots keep buffer order. -/
def Obligations.OperandsAreLittleEndian : Prop :=
  ∀ (base : Addr) (raw : Text) (cur : Nat) (mn : Mnemonic) (mode : Mode) (op b1 b2 : Byte),
    (operand16 b2 b1).toNat = b2.toNat * 256 + b1.toNat ∧ hex4 (operand16 b2 b1) = hex2 b2 ++ hex2 b1 ∧
      (opText .abs op (some b1) (some b2) = '$' :: hex4 (operand16 b2 b1) ∧
        opText .abx op (some b1) (some b2) = '$' :: hex4 (operand16 b2 b1) ++ ",X".toList ∧
        opText .aby op (some b1) (some b2) = '$' :: hex4 (operand16 b2 b1) ++ ",Y".toList ∧
        opText .ind op (some b1) (some b2) = "($".toList ++ hex4 (operand16 b2 b1) ++ ")".toList) ∧
      ((formatLine base raw cur mn mode op (some b1) (some b2)).drop 5).take 8 =
        hex2 op ++ " ".toList ++ hex2 b1 ++ " ".toList ++ hex2 b2

/-- From R106 to R109: the line of any instruction: displayed address, byte slots padded to three, separators, assembly text at
character index 14, and after it only the annotation. -/
def Obligations.LineLayout : Prop :=
  ∀ (i : Instr) (s t : State), exec i s = .next t → t.status ≠ .truncated →
    ∃ asm ann line : Text, t.out = s.out ++ [line] ∧
      line = hex4 (dispAddr s.base s.cur) ++ " ".toList ++ byteColumns (encode i) ++ " ".toList ++ asm ++ ann ∧
      asm = asmText (mnemonicText s.rawMnemonic i.mnemonic)
        (opText i.mode ((encode i).headD 0) (encode i)[1]? (encode i)[2]?) ∧
      ann = annotation s.base s.cur i.mode (encode i)[1]? ∧ (i.mode ≠ .rel → ann = []) ∧
      line.drop 14 = asm ++ ann ∧ (line.take 14).length = 14

/-- R116: one instruction decoded at two cursors and bases gives lines that agree from the byte slots on, up to the nine
characters of a branch annotation. -/
def Obligations.TextIsPositionIndependent : Prop :=
  ∀ (i : Instr) (s s' t t' : State), exec i s = .next t → exec i s' = .next t' →
    t.status ≠ .truncated → t'.status ≠ .truncated → s.rawMnemonic = s'.rawMnemonic →
    ∃ line line' : Text, t.out = s.out ++ [line] ∧ t'.out = s'.out ++ [line'] ∧
      line.length = line'.length ∧
      let tail := if i.mode = .rel then 9 else 0
      (line.drop 4).take (line.length - 4 - tail) = (line'.drop 4).take (line'.length - 4 - tail)

/-! ## Instructions in any state -/

/-- Every instruction completes in every state in which a step is enabled: with its line if its bytes fit, with the
truncated-instruction error if they do not (R104, R113, R214). For an ill-formed `raw op`, which the decoder
never answers, that is no rule's but the model's own choice (log entry 9). -/
def Obligations.EveryInstructionCompletes : Prop :=
  ∀ (i : Instr) (s : State), Ready s →
    (s.cur + i.len ≤ s.n → ∃ line : Text, exec i s = .next { s with
      out := s.out ++ [line]
      cur := s.cur + i.len
      status := if s.cur + i.len = s.n then .done else .running }) ∧
    (s.n < s.cur + i.len → exec i s = .next (cutOff s ((encode i).headD 0) i.len))

/-- The frame of every instruction. `BUF`, each byte of it, `N`, `BASE` and `RAW_MNEMONIC` never change. An instruction that is
rendered appends one line, moves the cursor by its own length (R23) and leaves `err` alone; one that is
truncated writes `err` and `status` alone (R212). -/
def Obligations.InstructionFrame : Prop :=
  ∀ (i : Instr) (s t : State), exec i s = .next t →
    t.buf = s.buf ∧ (∀ a, memRead t a = memRead s a) ∧ t.n = s.n ∧ t.base = s.base ∧
      t.rawMnemonic = s.rawMnemonic ∧
      ((t.status ≠ .truncated ∧ t.cur = s.cur + i.len ∧ t.err = s.err ∧ ∃ line, t.out = s.out ++ [line]) ∨
        (t.status = .truncated ∧ t.cur = s.cur ∧ t.out = s.out))

/-! ## The step -/

/-- When the bytes at the cursor are those of a well-formed instruction and lie inside the buffer, the step is that
instruction's meaning at that state, with nothing around it. -/
def Obligations.StepRunsTheDecodedInstruction : Prop :=
  ∀ (i : Instr) (s : State), Ready s → i.WellFormed = true → s.cur + i.len ≤ s.n → AtCursor s (encode i) →
    step s = exec i s

/-- From R113 and R120: the step is the pass step of the spec's pseudocode over `decodeOne`, in every state. -/
def Obligations.StepIsTheSpecPassStep : Prop := ∀ s : State, step s = passStep s

/-- From R212 (its failure is the spec's decision D12, its count of 122 the spec's inference): the error is raised exactly when the opcode at the cursor classifies to length 2 or 3 and its bytes reach past
the buffer; it writes `err` and `status` and nothing else. 122 opcodes can raise it, and no raw byte can. -/
def Obligations.TruncationExactly : Prop :=
  (∀ s : State, Ready s →
    (s.n < s.cur + lenOf (s.buf.read s.cur) →
      (lenOf (s.buf.read s.cur) = 2 ∨ lenOf (s.buf.read s.cur) = 3) ∧
        step s = .next (cutOff s (s.buf.read s.cur) (lenOf (s.buf.read s.cur)))) ∧
    (s.cur + lenOf (s.buf.read s.cur) ≤ s.n →
      ∃ t, step s = .next t ∧ t.status ≠ .truncated ∧ t.err = s.err)) ∧
    ((List.range 256).map (BitVec.ofNat 8)).countP (fun op => lenOf op = 2 ∨ lenOf op = 3) = 122 ∧
    ∀ op ∈ undefinedBytes, lenOf op = 1

/-- From R115: with the operand bytes present, every opcode byte gives a length in 1, 2, 3 and a non-empty line. -/
def Obligations.EveryByteValueRenders : Prop :=
  ∀ s : State, Ready s → s.cur + lenOf (s.buf.read s.cur) ≤ s.n →
    ∃ (t : State) (len : Nat) (line : Text), step s = .next t ∧ len ∈ [1, 2, 3] ∧ len = lenOf (s.buf.read s.cur) ∧
      t.cur = s.cur + len ∧ t.out = s.out ++ [line] ∧ line ≠ []

/-- R214: an enabled step never faults and never refuses; the one error is a next state; and an unrecognised opcode byte
is no error but rendered as a raw data byte. -/
def Obligations.EnabledStepsComplete : Prop :=
  ∀ s : State, Ready s →
    ∃ t, step s = .next t ∧ (t.status = .running ∨ t.status = .done ∨ t.status = .truncated) ∧
      (s.buf.read s.cur ∈ undefinedBytes →
        t.status ≠ .truncated ∧ step s = exec (.raw (s.buf.read s.cur)) s ∧
          t.out = s.out ++ [lineOf s.base s.rawMnemonic s.cur (.raw (s.buf.read s.cur))])

/-- R206: every step that does not raise `TruncatedInstruction` advances the cursor by at least 1, and by at most 3. -/
def Obligations.ForwardProgress : Prop :=
  ∀ s t : State, step s = .next t → t.status ≠ .truncated → s.cur + 1 ≤ t.cur ∧ t.cur ≤ s.cur + 3

/-- R42: `MemRead` returns the buffer's byte below `N` and is a fault of the model from `N` on; no step, from any
state, makes such a read. -/
def Obligations.NoReadPastTheEnd : Prop :=
  (∀ (s : State) (a : Nat), (a < s.n → memRead s a = .ok (s.buf.read a)) ∧
    (s.n ≤ a → memRead s a = .error .readPastEnd)) ∧
    ∀ s : State, step s ≠ .fault .readPastEnd

/-- From R121: no step is enabled once a pass has ended, and no instruction runs. -/
def Obligations.NothingRunsAfterThePass : Prop :=
  ∀ (i : Instr) (s : State),
    (s.status = .done → step s = .fault .passDone ∧ exec i s = .fault .passDone) ∧
      (s.status = .truncated → step s = .fault .passTruncated ∧ exec i s = .fault .passTruncated)

/-- From R100 and A4: decoding at a cursor at or past `N` gets no result; A7: nor does a step under the reserved status. -/
def Obligations.OutOfContractIsRefused : Prop :=
  ∀ (i : Instr) (s : State),
    (s.n ≤ s.cur → decodeOne s = .refused .cursorOutsideBuffer) ∧
      (s.status = .running → s.n ≤ s.cur →
        step s = .refused .cursorOutsideBuffer ∧ exec i s = .refused .cursorOutsideBuffer) ∧
      (s.status = .reserved → step s = .refused .reservedStatus ∧ exec i s = .refused .reservedStatus)

/-- R25: the codes of the pass status (the spec's own, D19), its value at the start of a pass, and what each value means
after a step: `RUNNING` below `N`, `DONE` exactly at `N`, `TRUNCATED` where the instruction at the cursor reaches
past the buffer, never the reserved value. `DONE` and `TRUNCATED` are final: a step starts from `RUNNING`. -/
def Obligations.PassStatusRegister : Prop :=
  (statusCode .running = 0 ∧ statusCode .done = 1 ∧ statusCode .truncated = 2 ∧ statusCode .reserved = 3 ∧
    ∀ c, statusCode (statusOfCode c) = c) ∧
    (∀ (bytes : List Byte) (base : Addr) (raw : Text) (err : ErrRecord),
      (startPass bytes base raw err).status = if bytes.length = 0 then .done else .running) ∧
    ∀ s t : State, step s = .next t →
      s.status = .running ∧ t.status ≠ .reserved ∧ (t.status = .done ↔ t.cur = t.n) ∧
        (t.status = .running → t.cur < t.n) ∧
        (t.status = .truncated → t.n < t.cur + lenOf (t.buf.read t.cur))

/-- From R113 (the spec's own inference, 40_decode_engine.md section 4): `decodeOne` depends on the bytes of the instruction, the cursor, the bounds check and the base alone (and on the
parameter `RAW_MNEMONIC`). -/
def Obligations.DecodeOneIsLocal : Prop :=
  ∀ s s' : State, s.cur = s'.cur → s.base = s'.base → s.rawMnemonic = s'.rawMnemonic → s.cur < s.n → s.cur < s'.n →
    (∀ a, s.cur ≤ a → a < s.cur + lenOf (s.buf.read s.cur) → a < s.n → s.buf.read a = s'.buf.read a) →
    (s.n = s'.n ∨ (s.cur + lenOf (s.buf.read s.cur) ≤ s.n ∧ s.cur + lenOf (s.buf.read s.cur) ≤ s'.n)) →
    decodeOne s = decodeOne s'

/-- R123: the cursor sequence is fixed by the bytes alone: after any instruction, a branch, JMP or JSR too, the cursor
is past its bytes; and two states with the same buffer, cursor and status step to the same cursor and status,
whatever their bases, texts and outputs. -/
def Obligations.CursorFollowsBytesAlone : Prop :=
  ∀ s s' t : State, s.buf = s'.buf → s.n = s'.n → s.cur = s'.cur → s.status = s'.status → step s = .next t →
    (t.status ≠ .truncated → t.cur = s.cur + lenOf (s.buf.read s.cur)) ∧
      ∃ t', step s' = .next t' ∧ t'.cur = t.cur ∧ t'.status = t.status ∧
        t'.err = (if t.status = .truncated then t.err else s'.err)

/-- From R26 and A6: no step reads `err`: a step with other contents of `err` does the same, and keeps them unless it writes
the error record. -/
def Obligations.ErrIsNeverRead : Prop :=
  ∀ (s t : State) (e : ErrRecord), step s = .next t →
    step { s with err := e } = .next (if t.status = .truncated then t else { t with err := e })

/-! ## Passes -/

/-- R230: the state at the start of a pass, whatever the unspecified contents of `err`. -/
def Obligations.PassStartState : Prop :=
  ∀ (bytes : List Byte) (base : Addr) (raw : Text) (err : ErrRecord),
    let s := startPass bytes base raw err
    s.n = bytes.length ∧ (∀ k (h : k < bytes.length), memRead s k = .ok bytes[k]) ∧ s.base = base ∧
      s.rawMnemonic = raw ∧ s.cur = 0 ∧ (0 < s.n → s.status = .running) ∧ (s.n = 0 → s.status = .done) ∧
      s.err = err ∧ s.out = []

/-- From R33 and R121 (the spec's own inference, 70_reset_and_hazards.md section 1): with `N = 0` the pass is `DONE` at once, `out` is empty, no decode step runs and no byte can be read. -/
def Obligations.EmptyBufferIsDoneAtOnce : Prop :=
  ∀ (base : Addr) (raw : Text) (err : ErrRecord),
    let s := startPass [] base raw err
    s.status = .done ∧ s.out = [] ∧ step s = .fault .passDone ∧ ∀ a, memRead s a = .error .readPastEnd

/-- The model's own choice of reset state (log entries 2 and 3): the start of a pass over an empty buffer with the
default `BASE` and `RAW_MNEMONIC`; and it meets the invariant. -/
def Obligations.ResetIsThePassOverNothing : Prop :=
  State.reset = startPass [] 0x5000 ".byte".toList State.reset.err ∧ Inv State.reset

/-- From R233 and R219, the host's side (`boot`): the metadata table must load before the binary is read; on the first failure no pass starts; on success the
pass starts over the binary's bytes. -/
def Obligations.BootOrder : Prop :=
  ∀ (binary : Option (List Byte)) (base : Addr) (raw : Text) (err : ErrRecord),
    boot false binary base raw err = .error .metadataLoad ∧
      boot true none base raw err = .error .binaryOpen ∧
      ∀ bytes, boot true (some bytes) base raw err = .ok (startPass bytes base raw err)

/-- The invariant of a pass holds at the start of every pass. -/
def Obligations.PassStartMeetsInvariant : Prop :=
  ∀ (bytes : List Byte) (base : Addr) (raw : Text) (err : ErrRecord), Inv (startPass bytes base raw err)

/-- The invariant of a pass: canonical buffer, `0 <= cur <= N` with `RUNNING` below `N` and `DONE` at `N` (R22, R25), no reserved status,
and an error record that describes the instruction at the cursor (R26). Every step from every state that
meets it keeps it. -/
def Obligations.StepKeepsInvariant : Prop := ∀ s t : State, Inv s → step s = .next t → Inv t

/-- The output is the gapless listing of the buffer from cursor 0 to the cursor (R27, R122): so at the start of a
pass, and every step from every state keeps it so. -/
def Obligations.StepKeepsListing : Prop :=
  (∀ (bytes : List Byte) (base : Addr) (raw : Text) (err : ErrRecord), Listing (startPass bytes base raw err)) ∧
    ∀ s t : State, Listing s → step s = .next t → Listing t

/-- From R27: with a `RAW_MNEMONIC` that is ASCII without a line terminator (R9), every line is, and every step keeps it so. -/
def Obligations.LinesArePlainAscii : Prop :=
  ∀ s t : State, PlainAscii s.rawMnemonic → (∀ line ∈ s.out, PlainAscii line) → step s = .next t →
    PlainAscii t.rawMnemonic ∧ ∀ line ∈ t.out, PlainAscii line

/-- R52: over any number of steps the buffer, each of its bytes, `N`, `BASE` and `RAW_MNEMONIC` stay as they are, and the lines
already produced stay in place (R27). -/
def Obligations.BufferNeverChanges : Prop :=
  ∀ (k : Nat) (s t : State), Host.Core.run core k s = .next t →
    t.buf = s.buf ∧ (∀ a, memRead t a = memRead s a) ∧ t.n = s.n ∧ t.base = s.base ∧
      t.rawMnemonic = s.rawMnemonic ∧ s.out <+: t.out

/-- From R120 and R121 (length coverage and precision are the spec's own inferences, 40_decode_engine.md section 5 and
60_exceptions.md section 2): a pass ends within `N` steps. The buffer is then the encodings of well-formed instructions one after another, with
no gap and no overlap, and `out` is their lines, each at the cursor equal to the sum of the lengths before
it. `DONE`: their lengths sum to `N`. `TRUNCATED`: they sum to `err.cur`, and the 1 or 2 bytes left are an
instruction cut short, described by `err` (R213). -/
def Obligations.PassDisassemblesTheBuffer : Prop :=
  ∀ (bytes : List Byte) (base : Addr) (raw : Text) (err : ErrRecord),
    ∃ (k : Nat) (t : State) (is : List Instr) (tail : List Byte),
      k ≤ bytes.length ∧ Host.Core.run core k (startPass bytes base raw err) = .next t ∧
        (∀ i ∈ is, i.WellFormed = true) ∧ bytes = (is.map encode).flatten ++ tail ∧
        t.out = linesOf base raw 0 is ∧ t.cur = (is.map Instr.len).sum ∧
        ((t.status = .done ∧ tail = [] ∧ t.cur = bytes.length) ∨
          (t.status = .truncated ∧ (tail.length = 1 ∨ tail.length = 2) ∧ t.err.cur = t.cur ∧
            t.err.opcode = tail.headD 0 ∧ t.err.avail = tail.length ∧
            decode tail = .error (.truncated t.err.opcode t.err.need.toNat tail.length)))

/-- From every running state that meets the invariant the pass ends, `DONE` or `TRUNCATED`, in at most as many steps as
there are bytes left (R121). -/
def Obligations.PassEndsFromAnyState : Prop :=
  ∀ s : State, Inv s → s.status = .running →
    ∃ k t, k ≤ s.n - s.cur ∧ Host.Core.run core k s = .next t ∧ (t.status = .done ∨ t.status = .truncated)

/-- A listing loses nothing of the binary: two passes that end `DONE` with the same lines ran over the same bytes, whatever
their parameters. -/
def Obligations.SameListingSameBinary : Prop :=
  ∀ (bytes bytes' : List Byte) (base base' : Addr) (raw raw' : Text) (err err' : ErrRecord) (k k' : Nat) (t t' : State),
    Host.Core.run core k (startPass bytes base raw err) = .next t →
    Host.Core.run core k' (startPass bytes' base' raw' err') = .next t' →
    t.status = .done → t'.status = .done → t.out = t'.out → bytes = bytes'

/-- From R113 and R230 (the spec's own inference, 70_reset_and_hazards.md section 1): a pass over the same buffer with the same parameters gives the same `out`, `status` and cursor after each number of
steps, and the same `err` once it is written, whatever `err` held at its start. -/
def Obligations.RerunGivesTheSameResult : Prop :=
  ∀ (bytes : List Byte) (base : Addr) (raw : Text) (err err' : ErrRecord) (k : Nat) (t : State),
    Host.Core.run core k (startPass bytes base raw err) = .next t →
    ∃ t', Host.Core.run core k (startPass bytes base raw err') = .next t' ∧ t'.out = t.out ∧
      t'.status = t.status ∧ t'.cur = t.cur ∧ (t.status = .truncated → t'.err = t.err)

/-- From D15: where the buffer fits a cursor width, so does the cursor after every step from a state that meets the invariant: a
cursor register of that width never wraps. It holds for every width, so for the one an implementation chooses,
the open constant `Config.curBits` (log entry 10). -/
def Obligations.CursorFitsItsWidth : Prop :=
  ∀ (width : Nat) (s t : State), Inv s → FitsCursor width s → step s = .next t →
    FitsCursor width t ∧ t.cur < 2 ^ width

/-- The model's interface (log entry 2): the step after `withFetchWord` runs exactly the instruction the word decodes to, from
any canonical buffer. -/
def Obligations.FetchWordRunsNext : Prop :=
  ∀ (s : State) (nbits w : Nat) (i : Instr), Memory.wf s.buf → nbits ≤ 24 → decodeTableWord nbits w = some i →
    step (s.withFetchWord nbits w) = exec i (s.withFetchWord nbits w) ∧
      ∃ line, step (s.withFetchWord nbits w) = .next
        (advance i.len (emit line (s.withFetchWord nbits w)))
end

