-- ==== Sys2Proof/Laws/Decode.lean ====
section
/-! SUPPORT. The classifier, the decoder and the encoder agree: R81's map, the opcode table's constructors, and
the bytes written in the rules of 41 to 47. -/

namespace Sys2Proof.Laws

/-- A property of every byte is one of 256 cases. -/
theorem forall_byte {P : Byte → Prop} (h : ∀ k : Fin 256, P (BitVec.ofFin k)) : ∀ op, P op :=
  fun op => h op.toFin

/-- R90's list is the set of bytes the map of R81 leaves undefined. -/
theorem undefined_iff_raw (op : Byte) : undefinedBytes.contains op = true ↔ classify op = (.raw, .raw) := by
  revert op
  decide

/-- Every mode has length 1, 2 or 3. -/
theorem mode_len_cases (m : Mode) : m.len = 1 ∨ m.len = 2 ∨ m.len = 3 := by
  cases m <;> decide

/-- Every instruction has length 1, 2 or 3. -/
theorem len_cases (i : Instr) : i.len = 1 ∨ i.len = 2 ∨ i.len = 3 := mode_len_cases i.mode

/-- Every opcode has length 1, 2 or 3. -/
theorem lenOf_cases (op : Byte) : lenOf op = 1 ∨ lenOf op = 2 ∨ lenOf op = 3 := mode_len_cases _

/-- With its operand bytes present, an opcode byte decodes to an instruction of the classifier's mnemonic
and mode whose encoding is those bytes. -/
theorem decode_agrees_with_map (op b1 b2 : Byte) :
    ∃ i, decode [op, b1, b2] = .ok (i, [b1, b2].drop (lenOf op - 1)) ∧
      (i.mnemonic, i.mode) = classify op ∧ encode i = [op, b1, b2].take (lenOf op) ∧ i.WellFormed = true := by
  revert op
  refine forall_byte fun k => ?_
  fin_cases k <;> exact ⟨_, rfl, rfl, rfl, rfl⟩

/-- An undefined byte is one raw data byte, whatever follows it. -/
theorem decode_undefined (op : Byte) (rest : List Byte) (h : undefinedBytes.contains op = true) :
    decode (op :: rest) = .ok (.raw op, rest) := by
  revert op
  refine forall_byte fun k => ?_
  fin_cases k <;> first | exact fun _ => rfl | exact fun h => absurd h (by decide)

/-- An opcode byte whose operand bytes are missing decodes to nothing, by name. -/
theorem decode_truncated (op : Byte) (rest : List Byte) (h : rest.length + 1 < lenOf op) :
    decode (op :: rest) = .error (.truncated op (lenOf op) (rest.length + 1)) := by
  revert op
  refine forall_byte fun k => ?_
  match rest with
  | [] => fin_cases k <;> first | exact fun _ => rfl | exact fun h => absurd h (by decide)
  | [_] => fin_cases k <;> first | exact fun _ => rfl | exact fun h => absurd h (by simp +decide)
  | _ :: _ :: _ =>
    intro h
    have := lenOf_cases (BitVec.ofFin k)
    simp only [List.length_cons] at h
    omega

/-- The bytes of an instruction are its opcode byte and as many operand bytes as its length leaves. -/
theorem encode_eq (i : Instr) :
    encode i = (encode i).headD 0 :: ((encode i)[1]?.toList ++ (encode i)[2]?.toList) := by
  cases i <;> rfl

/-- The encoding's length is the mode's length. -/
@[simp] theorem encode_length (i : Instr) : (encode i).length = i.len := by
  cases i <;> rfl

/-- The opcode map gives a well-formed instruction's opcode byte its mnemonic and mode. -/
theorem classify_encode (i : Instr) (hw : i.WellFormed = true) :
    classify ((encode i).headD 0) = (i.mnemonic, i.mode) := by
  cases i with
  | raw op => exact (undefined_iff_raw op).1 hw
  | _ => dsimp only [encode, List.headD, Instr.mnemonic, Instr.mode]; rfl

/-- The opcode byte alone gives a well-formed instruction's length (R91). -/
theorem lenOf_encode (i : Instr) (hw : i.WellFormed = true) : lenOf ((encode i).headD 0) = i.len := by
  rw [lenOf, classify_encode i hw]
  rfl

end Sys2Proof.Laws
end

