-- ==== Sys2Proof/Laws/Memory.lean ====
section
/-! SUPPORT. The buffer's cells: reading after writing, and the canonical form. -/

namespace Sys2Proof.Machine.Memory

/-- The head of a canonical form lies below every other cell. -/
theorem wf_cons {c : Host.Cell} {m : Memory} :
    wf (c :: m) ↔ (∀ d ∈ m, c.1 < d.1) ∧ c.2 ≠ unlisted ∧ wf m := by
  simp only [wf, List.pairwise_cons, List.mem_cons, forall_eq_or_imp]
  tauto

/-- An offset below every cell reads as an unlisted one. -/
theorem read_of_lt {m : Memory} {a : Nat} (h : ∀ d ∈ m, a < d.1) : read m a = unlisted := by
  induction m with
  | nil => rfl
  | cons c m ih =>
    have hc : c.1 ≠ a := (Nat.ne_of_lt (h c (by simp))).symm
    simp only [read, hc, if_false]
    exact ih fun d hd => h d (by simp [hd])

/-- A write reads back at its own offset, and leaves every other offset alone. -/
theorem read_write {m : Memory} (hm : wf m) (a b x) :
    read (write m a b) x = if x = a then b else read m x := by
  induction m with
  | nil =>
    simp only [write]
    split <;> simp only [read] <;> split <;> simp_all [eq_comm]
  | cons c m ih =>
    obtain ⟨y, v⟩ := c
    obtain ⟨hlt, -, hm'⟩ := wf_cons.1 hm
    simp only [write]
    by_cases hya : y < a
    · simp only [hya, if_true, read, ih hm']
      by_cases hyx : y = x
      · simp [hyx, show x ≠ a by omega]
      · simp [hyx]
    · by_cases hay : y = a
      · subst hay
        simp only [Nat.lt_irrefl, if_false, if_true]
        by_cases hb : b = unlisted
        · by_cases hx : x = y
          · simp [hb, hx, read_of_lt hlt]
          · simp [hb, hx, read, Ne.symm hx]
        · by_cases hx : x = y
          · simp [hb, hx, read]
          · simp [hb, hx, read, Ne.symm hx]
      · simp only [hya, hay, if_false]
        have hbelow : ∀ d ∈ ((y, v) :: m : Memory), a < d.1 := by
          intro d hd
          rcases List.mem_cons.1 hd with rfl | hd
          · show a < y
            omega
          · have := hlt d hd
            simp only at this
            omega
        by_cases hb : b = unlisted
        · by_cases hx : x = a
          · simp only [hb, if_true, hx, read_of_lt hbelow]
          · simp [hb, hx]
        · by_cases hx : x = a
          · simp [hb, hx, read]
          · rw [if_neg hb, if_neg hx, read, if_neg (Ne.symm hx)]

/-- A write lists no offset but its own and those listed before. -/
theorem mem_write {m : Memory} {a b} {c : Host.Cell} (h : c ∈ write m a b) : c ∈ m ∨ c = (a, b) := by
  induction m with
  | nil =>
    simp only [write] at h
    split at h <;> simp_all
  | cons d m ih =>
    obtain ⟨y, v⟩ := d
    simp only [write] at h
    split at h
    · rcases List.mem_cons.1 h with rfl | h
      · simp
      · rcases ih h with h | h <;> simp [h]
    · split at h <;> split at h <;> simp_all <;> tauto

/-- A write keeps the canonical form. -/
theorem wf_write {m : Memory} (hm : wf m) (a b) : wf (write m a b) := by
  induction m with
  | nil =>
    simp only [write]
    split <;> simp [wf, *]
  | cons c m ih =>
    obtain ⟨y, v⟩ := c
    obtain ⟨hlt, hv, hm'⟩ := wf_cons.1 hm
    simp only [write]
    split
    · next hya =>
      refine wf_cons.2 ⟨fun d hd => ?_, hv, ih hm'⟩
      rcases mem_write hd with hd | rfl
      · exact hlt d hd
      · exact hya
    · next hya =>
      split <;> split
      · exact hm'
      · next hay hb => exact wf_cons.2 ⟨fun d hd => hay ▸ hlt d hd, hb, hm'⟩
      · exact hm
      · next hay hb =>
        refine wf_cons.2 ⟨fun d hd => ?_, hb, hm⟩
        rcases List.mem_cons.1 hd with rfl | hd
        · show a < y
          omega
        · have := hlt d hd
          simp only at this ⊢
          omega

/-- A load keeps the canonical form. -/
theorem wf_load {m : Memory} (hm : wf m) (a) (bs : List Byte) : wf (load m a bs) := by
  induction bs generalizing m a with
  | nil => exact hm
  | cons b bs ih => exact ih (wf_write hm a b) (a + 1)

/-- A load reads back its own run of bytes, and leaves every other offset alone. -/
theorem read_load {m : Memory} (hm : wf m) (a) (bs : List Byte) (x) :
    read (load m a bs) x = if a ≤ x ∧ x < a + bs.length then bs.getD (x - a) 0 else read m x := by
  induction bs generalizing m a with
  | nil => simp [load]
  | cons b bs ih =>
    rw [load, ih (wf_write hm a b), read_write hm]
    by_cases hx : x = a
    · simp [hx]
    · by_cases hin : a + 1 ≤ x ∧ x < a + 1 + bs.length
      · have hx' : x - a = (x - (a + 1)) + 1 := by omega
        have hin' : a ≤ x ∧ x < a + (b :: bs).length := by simp; omega
        rw [if_pos hin, if_pos hin', hx', List.getD_cons_succ]
      · have hin' : ¬(a ≤ x ∧ x < a + (b :: bs).length) := by simp; omega
        rw [if_neg hin, if_neg hin', if_neg hx]

/-- A load lists no offset but its own run and those listed before. -/
theorem load_within {m : Memory} {n a} {bs : List Byte} (hm : ∀ c ∈ m, c.1 < n) (h : a + bs.length ≤ n) :
    ∀ c ∈ load m a bs, c.1 < n := by
  induction bs generalizing m a with
  | nil => exact hm
  | cons b bs ih =>
    simp only [List.length_cons] at h
    refine ih (fun c hc => ?_) (by omega)
    rcases mem_write hc with hc | rfl
    · exact hm c hc
    · show a < n
      omega

/-- A cell of a canonical form is what its offset reads as. -/
theorem read_of_mem {m : Memory} (hm : wf m) {c : Host.Cell} (hc : c ∈ m) : read m c.1 = c.2 := by
  induction m with
  | nil => simp at hc
  | cons d m ih =>
    obtain ⟨hlt, -, hm'⟩ := wf_cons.1 hm
    rcases List.mem_cons.1 hc with rfl | hc
    · simp [read]
    · have hne : d.1 ≠ c.1 := Nat.ne_of_lt (hlt c hc)
      simpa [read, hne] using ih hm' hc

/-- Two canonical forms that read the same at every offset are equal. -/
theorem eq_of_read_eq {m m' : Memory} (hm : wf m) (hm' : wf m') (h : ∀ a, read m a = read m' a) : m = m' := by
  induction m generalizing m' with
  | nil =>
    cases m' with
    | nil => rfl
    | cons d m' =>
      have := h d.1
      rw [read_of_mem hm' (by simp)] at this
      exact absurd this.symm (wf_cons.1 hm').2.1
  | cons c m ih =>
    cases m' with
    | nil =>
      have := h c.1
      rw [read_of_mem hm (by simp)] at this
      exact absurd this (wf_cons.1 hm).2.1
    | cons d m' =>
      obtain ⟨hlt, hv, hmt⟩ := wf_cons.1 hm
      obtain ⟨hlt', hv', hmt'⟩ := wf_cons.1 hm'
      have hcd : c.1 = d.1 := by
        rcases Nat.lt_trichotomy c.1 d.1 with hlt'' | heq | hgt
        · have := h c.1
          rw [read_of_mem hm (by simp), read_of_lt (m := d :: m')] at this
          · exact absurd this hv
          · intro e he
            rcases List.mem_cons.1 he with rfl | he
            · exact hlt''
            · exact Nat.lt_trans hlt'' (hlt' e he)
        · exact heq
        · have := h d.1
          rw [read_of_mem hm' (by simp), read_of_lt (m := c :: m)] at this
          · exact absurd this.symm hv'
          · intro e he
            rcases List.mem_cons.1 he with rfl | he
            · exact hgt
            · exact Nat.lt_trans hgt (hlt e he)
      have hval : c.2 = d.2 := by
        have := h c.1
        rwa [read_of_mem hm (by simp), hcd, read_of_mem hm' (by simp)] at this
      have hhead : c = d := Prod.ext hcd hval
      subst hhead
      congr 1
      refine ih hmt hmt' fun a => ?_
      by_cases ha : c.1 = a
      · rw [← ha, read_of_lt hlt, read_of_lt hlt']
      · simpa [read, ha] using h a

end Sys2Proof.Machine.Memory
end

