-- ==== Sys2Proof/Laws/State.lean ====
section
/-! SUPPORT. One lemma for each field of the state under each update of it. -/

namespace Sys2Proof.Machine

@[simp] theorem emit_buf (line : Text) (s : State) :
    (emit line s).buf = s.buf := rfl
@[simp] theorem emit_n (line : Text) (s : State) :
    (emit line s).n = s.n := rfl
@[simp] theorem emit_base (line : Text) (s : State) :
    (emit line s).base = s.base := rfl
@[simp] theorem emit_rawMnemonic (line : Text) (s : State) :
    (emit line s).rawMnemonic = s.rawMnemonic := rfl
@[simp] theorem emit_cur (line : Text) (s : State) :
    (emit line s).cur = s.cur := rfl
@[simp] theorem emit_status (line : Text) (s : State) :
    (emit line s).status = s.status := rfl
@[simp] theorem emit_err (line : Text) (s : State) :
    (emit line s).err = s.err := rfl
@[simp] theorem emit_out (line : Text) (s : State) :
    (emit line s).out = s.out ++ [line] := rfl

@[simp] theorem advance_buf (len : Nat) (s : State) :
    (advance len s).buf = s.buf := rfl
@[simp] theorem advance_n (len : Nat) (s : State) :
    (advance len s).n = s.n := rfl
@[simp] theorem advance_base (len : Nat) (s : State) :
    (advance len s).base = s.base := rfl
@[simp] theorem advance_rawMnemonic (len : Nat) (s : State) :
    (advance len s).rawMnemonic = s.rawMnemonic := rfl
@[simp] theorem advance_cur (len : Nat) (s : State) :
    (advance len s).cur = s.cur + len := rfl
@[simp] theorem advance_status (len : Nat) (s : State) :
    (advance len s).status = statusAt (s.cur + len) s.n s.status := rfl
@[simp] theorem advance_err (len : Nat) (s : State) :
    (advance len s).err = s.err := rfl
@[simp] theorem advance_out (len : Nat) (s : State) :
    (advance len s).out = s.out := rfl

@[simp] theorem raiseTruncated_buf (op : Byte) (len : Nat) (s : State) :
    (raiseTruncated op len s).buf = s.buf := rfl
@[simp] theorem raiseTruncated_n (op : Byte) (len : Nat) (s : State) :
    (raiseTruncated op len s).n = s.n := rfl
@[simp] theorem raiseTruncated_base (op : Byte) (len : Nat) (s : State) :
    (raiseTruncated op len s).base = s.base := rfl
@[simp] theorem raiseTruncated_rawMnemonic (op : Byte) (len : Nat) (s : State) :
    (raiseTruncated op len s).rawMnemonic = s.rawMnemonic := rfl
@[simp] theorem raiseTruncated_cur (op : Byte) (len : Nat) (s : State) :
    (raiseTruncated op len s).cur = s.cur := rfl
@[simp] theorem raiseTruncated_status (op : Byte) (len : Nat) (s : State) :
    (raiseTruncated op len s).status = .truncated := rfl
@[simp] theorem raiseTruncated_err (op : Byte) (len : Nat) (s : State) :
    (raiseTruncated op len s).err = { cur := s.cur, opcode := op, need := BitVec.ofNat 2 len, avail := s.n - s.cur } := rfl
@[simp] theorem raiseTruncated_out (op : Byte) (len : Nat) (s : State) :
    (raiseTruncated op len s).out = s.out := rfl

@[simp] theorem withFetchWord_buf (s : State) (nbits w : Nat) :
    (s.withFetchWord nbits w).buf = s.buf.load s.cur [BitVec.ofNat 8 (w % 2 ^ nbits), BitVec.ofNat 8 (w % 2 ^ nbits / 2 ^ 8),
      BitVec.ofNat 8 (w % 2 ^ nbits / 2 ^ 16)] := rfl
@[simp] theorem withFetchWord_n (s : State) (nbits w : Nat) :
    (s.withFetchWord nbits w).n = max s.n (s.cur + 3) := rfl
@[simp] theorem withFetchWord_base (s : State) (nbits w : Nat) :
    (s.withFetchWord nbits w).base = s.base := rfl
@[simp] theorem withFetchWord_rawMnemonic (s : State) (nbits w : Nat) :
    (s.withFetchWord nbits w).rawMnemonic = s.rawMnemonic := rfl
@[simp] theorem withFetchWord_cur (s : State) (nbits w : Nat) :
    (s.withFetchWord nbits w).cur = s.cur := rfl
@[simp] theorem withFetchWord_status (s : State) (nbits w : Nat) :
    (s.withFetchWord nbits w).status = .running := rfl
@[simp] theorem withFetchWord_err (s : State) (nbits w : Nat) :
    (s.withFetchWord nbits w).err = s.err := rfl
@[simp] theorem withFetchWord_out (s : State) (nbits w : Nat) :
    (s.withFetchWord nbits w).out = s.out := rfl

@[simp] theorem startPass_buf (bytes : List Byte) (base : Addr) (raw : Text) (err : ErrRecord) :
    (startPass bytes base raw err).buf = Memory.load [] 0 bytes := rfl
@[simp] theorem startPass_n (bytes : List Byte) (base : Addr) (raw : Text) (err : ErrRecord) :
    (startPass bytes base raw err).n = bytes.length := rfl
@[simp] theorem startPass_base (bytes : List Byte) (base : Addr) (raw : Text) (err : ErrRecord) :
    (startPass bytes base raw err).base = base := rfl
@[simp] theorem startPass_rawMnemonic (bytes : List Byte) (base : Addr) (raw : Text) (err : ErrRecord) :
    (startPass bytes base raw err).rawMnemonic = raw := rfl
@[simp] theorem startPass_cur (bytes : List Byte) (base : Addr) (raw : Text) (err : ErrRecord) :
    (startPass bytes base raw err).cur = 0 := rfl
@[simp] theorem startPass_status (bytes : List Byte) (base : Addr) (raw : Text) (err : ErrRecord) :
    (startPass bytes base raw err).status = startStatus bytes.length := rfl
@[simp] theorem startPass_err (bytes : List Byte) (base : Addr) (raw : Text) (err : ErrRecord) :
    (startPass bytes base raw err).err = err := rfl
@[simp] theorem startPass_out (bytes : List Byte) (base : Addr) (raw : Text) (err : ErrRecord) :
    (startPass bytes base raw err).out = [] := rfl

end Sys2Proof.Machine
end

