-- ==== Sys2Proof/Laws/Ops.lean ====
section
/-! SUPPORT. What each shared operation can do, said once. -/

namespace Sys2Proof.Machine

/-! ## Enabling -/

/-- An enabled step is its continuation. -/
theorem whenEnabled_ready {s : State} (hr : s.status = .running) (hc : s.cur < s.n) (k : Result) :
    whenEnabled s k = k := by
  simp [whenEnabled, hr, hc]

/-- A next state comes only from an enabled step. -/
theorem whenEnabled_next {s t : State} {k : Result} (h : whenEnabled s k = .next t) :
    s.status = .running ∧ s.cur < s.n ∧ k = .next t := by
  unfold whenEnabled at h
  split at h
  · next hr =>
    split at h
    · next hc => exact ⟨hr, hc, h⟩
    · exact nomatch h
  all_goals exact nomatch h

/-! ## Reads -/

theorem memRead_of_lt {s : State} {a : Nat} (h : a < s.n) : memRead s a = .ok (s.buf.read a) := if_pos h

theorem memRead_of_ge {s : State} {a : Nat} (h : s.n ≤ a) : memRead s a = .error .readPastEnd :=
  if_neg (Nat.not_lt.2 h)

/-- The `k` bytes of the buffer from offset `a` on. -/
def bytesFrom (m : Memory) (a : Nat) : Nat → List Byte
  | 0 => []
  | k + 1 => m.read a :: bytesFrom m (a + 1) k

@[simp] theorem bytesFrom_length (m : Memory) (a k : Nat) : (bytesFrom m a k).length = k := by
  induction k generalizing a with
  | zero => rfl
  | succ k ih => simp [bytesFrom, ih]

theorem bytesFrom_getD (m : Memory) (a k j : Nat) (h : j < k) :
    (bytesFrom m a k).getD j 0 = m.read (a + j) := by
  induction k generalizing a j with
  | zero => omega
  | succ k ih =>
    cases j with
    | zero => rfl
    | succ j =>
      rw [bytesFrom, List.getD_cons_succ, ih (a + 1) j (by omega)]
      congr 1
      omega

/-- Reads inside the buffer never fault. -/
theorem memReads_of_le {s : State} {a k : Nat} (h : a + k ≤ s.n) :
    memReads s a k = .ok (bytesFrom s.buf a k) := by
  induction k generalizing a with
  | zero => rfl
  | succ k ih => simp only [memReads, memRead_of_lt (show a < s.n by omega), ih (show a + 1 + k ≤ s.n by omega), bytesFrom]

/-! ## The decode step -/

/-- The instruction lies inside the buffer: its line is appended and the cursor moves past it. -/
theorem decodeStep_of_fits {s : State} {mode : Mode} (hr : s.status = .running) (hc : s.cur < s.n)
    (hf : s.cur + mode.len ≤ s.n) (mn op b1 b2) :
    decodeStep mn mode op b1 b2 s =
      .next (advance mode.len (emit (formatLine s.base s.rawMnemonic s.cur mn mode op b1 b2) s)) := by
  rw [decodeStep, whenEnabled_ready hr hc, if_neg (by omega)]

/-- The instruction reaches past the buffer: the truncated-instruction error is taken. -/
theorem decodeStep_of_cut {s : State} {mode : Mode} (hr : s.status = .running) (hc : s.cur < s.n)
    (hf : s.n < s.cur + mode.len) (mn op b1 b2) :
    decodeStep mn mode op b1 b2 s = .next (raiseTruncated op mode.len s) := by
  rw [decodeStep, whenEnabled_ready hr hc, if_pos (by omega)]

/-- Everything a decode step that answers a next state can do. -/
theorem decodeStep_next {s t : State} {mn mode op b1 b2} (h : decodeStep mn mode op b1 b2 s = .next t) :
    s.status = .running ∧ s.cur < s.n ∧
      ((s.n < s.cur + mode.len ∧ t = raiseTruncated op mode.len s) ∨
        (s.cur + mode.len ≤ s.n ∧
          t = advance mode.len (emit (formatLine s.base s.rawMnemonic s.cur mn mode op b1 b2) s))) := by
  obtain ⟨hr, hc, hk⟩ := whenEnabled_next h
  refine ⟨hr, hc, ?_⟩
  split at hk
  · next hlt => exact .inl ⟨hlt, by simpa using hk.symm⟩
  · next hle => exact .inr ⟨by omega, by simpa using hk.symm⟩

/-! ## Fetch -/

/-- An instruction inside the buffer is fetched whole. -/
theorem fetch_of_fits {s : State} (hc : s.cur < s.n) (hf : s.cur + lenOf (s.buf.read s.cur) ≤ s.n) :
    fetch s = .ok (s.buf.read s.cur :: bytesFrom s.buf (s.cur + 1) (lenOf (s.buf.read s.cur) - 1)) := by
  have h1 : ¬s.cur + lenOf (s.buf.read s.cur) > s.n := by omega
  have h2 : s.cur + 1 + (lenOf (s.buf.read s.cur) - 1) ≤ s.n := by omega
  simp only [fetch, memRead_of_lt hc, if_neg h1, memReads_of_le h2]

/-- Of an instruction that reaches past the buffer only the opcode byte is fetched. -/
theorem fetch_of_cut {s : State} (hc : s.cur < s.n) (hf : s.n < s.cur + lenOf (s.buf.read s.cur)) :
    fetch s = .ok [s.buf.read s.cur] := by
  have h1 : s.cur + lenOf (s.buf.read s.cur) > s.n := hf
  simp only [fetch, memRead_of_lt hc, if_pos h1]

end Sys2Proof.Machine
end

