-- ==== Sys2Proof/Laws/PerInstr.lean ====
section
/-! SUPPORT. The family `Encoding`: a well-formed instruction's bytes are as many as its mode's length (R62),
and the opcode map gives its opcode byte its mnemonic and mode (R81, R82). -/

namespace Sys2Proof.Laws.Encoding

/-- The length and the classification of an instruction's encoding. -/
def Statement (i : Instr) : Prop :=
  i.WellFormed = true → (encode i).length = i.len ∧ classify ((encode i).headD 0) = (i.mnemonic, i.mode)

theorem ldaIzx (b1 : Byte) : Statement (.ldaIzx b1) :=
  fun _ => ⟨rfl, show classify 0xA1 = (.lda, .izx) from rfl⟩
theorem ldaZp (b1 : Byte) : Statement (.ldaZp b1) :=
  fun _ => ⟨rfl, show classify 0xA5 = (.lda, .zp) from rfl⟩
theorem ldaImm (b1 : Byte) : Statement (.ldaImm b1) :=
  fun _ => ⟨rfl, show classify 0xA9 = (.lda, .imm) from rfl⟩
theorem ldaAbs (b1 b2 : Byte) : Statement (.ldaAbs b1 b2) :=
  fun _ => ⟨rfl, show classify 0xAD = (.lda, .abs) from rfl⟩
theorem ldaIzy (b1 : Byte) : Statement (.ldaIzy b1) :=
  fun _ => ⟨rfl, show classify 0xB1 = (.lda, .izy) from rfl⟩
theorem ldaZpx (b1 : Byte) : Statement (.ldaZpx b1) :=
  fun _ => ⟨rfl, show classify 0xB5 = (.lda, .zpx) from rfl⟩
theorem ldaAby (b1 b2 : Byte) : Statement (.ldaAby b1 b2) :=
  fun _ => ⟨rfl, show classify 0xB9 = (.lda, .aby) from rfl⟩
theorem ldaAbx (b1 b2 : Byte) : Statement (.ldaAbx b1 b2) :=
  fun _ => ⟨rfl, show classify 0xBD = (.lda, .abx) from rfl⟩
theorem ldxImm (b1 : Byte) : Statement (.ldxImm b1) :=
  fun _ => ⟨rfl, show classify 0xA2 = (.ldx, .imm) from rfl⟩
theorem ldxZp (b1 : Byte) : Statement (.ldxZp b1) :=
  fun _ => ⟨rfl, show classify 0xA6 = (.ldx, .zp) from rfl⟩
theorem ldxAbs (b1 b2 : Byte) : Statement (.ldxAbs b1 b2) :=
  fun _ => ⟨rfl, show classify 0xAE = (.ldx, .abs) from rfl⟩
theorem ldxZpy (b1 : Byte) : Statement (.ldxZpy b1) :=
  fun _ => ⟨rfl, show classify 0xB6 = (.ldx, .zpy) from rfl⟩
theorem ldxAby (b1 b2 : Byte) : Statement (.ldxAby b1 b2) :=
  fun _ => ⟨rfl, show classify 0xBE = (.ldx, .aby) from rfl⟩
theorem ldyImm (b1 : Byte) : Statement (.ldyImm b1) :=
  fun _ => ⟨rfl, show classify 0xA0 = (.ldy, .imm) from rfl⟩
theorem ldyZp (b1 : Byte) : Statement (.ldyZp b1) :=
  fun _ => ⟨rfl, show classify 0xA4 = (.ldy, .zp) from rfl⟩
theorem ldyAbs (b1 b2 : Byte) : Statement (.ldyAbs b1 b2) :=
  fun _ => ⟨rfl, show classify 0xAC = (.ldy, .abs) from rfl⟩
theorem ldyZpx (b1 : Byte) : Statement (.ldyZpx b1) :=
  fun _ => ⟨rfl, show classify 0xB4 = (.ldy, .zpx) from rfl⟩
theorem ldyAbx (b1 b2 : Byte) : Statement (.ldyAbx b1 b2) :=
  fun _ => ⟨rfl, show classify 0xBC = (.ldy, .abx) from rfl⟩
theorem staIzx (b1 : Byte) : Statement (.staIzx b1) :=
  fun _ => ⟨rfl, show classify 0x81 = (.sta, .izx) from rfl⟩
theorem staZp (b1 : Byte) : Statement (.staZp b1) :=
  fun _ => ⟨rfl, show classify 0x85 = (.sta, .zp) from rfl⟩
theorem staAbs (b1 b2 : Byte) : Statement (.staAbs b1 b2) :=
  fun _ => ⟨rfl, show classify 0x8D = (.sta, .abs) from rfl⟩
theorem staIzy (b1 : Byte) : Statement (.staIzy b1) :=
  fun _ => ⟨rfl, show classify 0x91 = (.sta, .izy) from rfl⟩
theorem staZpx (b1 : Byte) : Statement (.staZpx b1) :=
  fun _ => ⟨rfl, show classify 0x95 = (.sta, .zpx) from rfl⟩
theorem staAby (b1 b2 : Byte) : Statement (.staAby b1 b2) :=
  fun _ => ⟨rfl, show classify 0x99 = (.sta, .aby) from rfl⟩
theorem staAbx (b1 b2 : Byte) : Statement (.staAbx b1 b2) :=
  fun _ => ⟨rfl, show classify 0x9D = (.sta, .abx) from rfl⟩
theorem stxZp (b1 : Byte) : Statement (.stxZp b1) :=
  fun _ => ⟨rfl, show classify 0x86 = (.stx, .zp) from rfl⟩
theorem stxAbs (b1 b2 : Byte) : Statement (.stxAbs b1 b2) :=
  fun _ => ⟨rfl, show classify 0x8E = (.stx, .abs) from rfl⟩
theorem stxZpy (b1 : Byte) : Statement (.stxZpy b1) :=
  fun _ => ⟨rfl, show classify 0x96 = (.stx, .zpy) from rfl⟩
theorem styZp (b1 : Byte) : Statement (.styZp b1) :=
  fun _ => ⟨rfl, show classify 0x84 = (.sty, .zp) from rfl⟩
theorem styAbs (b1 b2 : Byte) : Statement (.styAbs b1 b2) :=
  fun _ => ⟨rfl, show classify 0x8C = (.sty, .abs) from rfl⟩
theorem styZpx (b1 : Byte) : Statement (.styZpx b1) :=
  fun _ => ⟨rfl, show classify 0x94 = (.sty, .zpx) from rfl⟩
theorem tax : Statement (.tax) :=
  fun _ => ⟨rfl, show classify 0xAA = (.tax, .imp) from rfl⟩
theorem tay : Statement (.tay) :=
  fun _ => ⟨rfl, show classify 0xA8 = (.tay, .imp) from rfl⟩
theorem tsx : Statement (.tsx) :=
  fun _ => ⟨rfl, show classify 0xBA = (.tsx, .imp) from rfl⟩
theorem txa : Statement (.txa) :=
  fun _ => ⟨rfl, show classify 0x8A = (.txa, .imp) from rfl⟩
theorem txs : Statement (.txs) :=
  fun _ => ⟨rfl, show classify 0x9A = (.txs, .imp) from rfl⟩
theorem tya : Statement (.tya) :=
  fun _ => ⟨rfl, show classify 0x98 = (.tya, .imp) from rfl⟩
theorem pha : Statement (.pha) :=
  fun _ => ⟨rfl, show classify 0x48 = (.pha, .imp) from rfl⟩
theorem php : Statement (.php) :=
  fun _ => ⟨rfl, show classify 0x08 = (.php, .imp) from rfl⟩
theorem pla : Statement (.pla) :=
  fun _ => ⟨rfl, show classify 0x68 = (.pla, .imp) from rfl⟩
theorem plp : Statement (.plp) :=
  fun _ => ⟨rfl, show classify 0x28 = (.plp, .imp) from rfl⟩
theorem adcIzx (b1 : Byte) : Statement (.adcIzx b1) :=
  fun _ => ⟨rfl, show classify 0x61 = (.adc, .izx) from rfl⟩
theorem adcZp (b1 : Byte) : Statement (.adcZp b1) :=
  fun _ => ⟨rfl, show classify 0x65 = (.adc, .zp) from rfl⟩
theorem adcImm (b1 : Byte) : Statement (.adcImm b1) :=
  fun _ => ⟨rfl, show classify 0x69 = (.adc, .imm) from rfl⟩
theorem adcAbs (b1 b2 : Byte) : Statement (.adcAbs b1 b2) :=
  fun _ => ⟨rfl, show classify 0x6D = (.adc, .abs) from rfl⟩
theorem adcIzy (b1 : Byte) : Statement (.adcIzy b1) :=
  fun _ => ⟨rfl, show classify 0x71 = (.adc, .izy) from rfl⟩
theorem adcZpx (b1 : Byte) : Statement (.adcZpx b1) :=
  fun _ => ⟨rfl, show classify 0x75 = (.adc, .zpx) from rfl⟩
theorem adcAby (b1 b2 : Byte) : Statement (.adcAby b1 b2) :=
  fun _ => ⟨rfl, show classify 0x79 = (.adc, .aby) from rfl⟩
theorem adcAbx (b1 b2 : Byte) : Statement (.adcAbx b1 b2) :=
  fun _ => ⟨rfl, show classify 0x7D = (.adc, .abx) from rfl⟩
theorem sbcIzx (b1 : Byte) : Statement (.sbcIzx b1) :=
  fun _ => ⟨rfl, show classify 0xE1 = (.sbc, .izx) from rfl⟩
theorem sbcZp (b1 : Byte) : Statement (.sbcZp b1) :=
  fun _ => ⟨rfl, show classify 0xE5 = (.sbc, .zp) from rfl⟩
theorem sbcImm (b1 : Byte) : Statement (.sbcImm b1) :=
  fun _ => ⟨rfl, show classify 0xE9 = (.sbc, .imm) from rfl⟩
theorem sbcAbs (b1 b2 : Byte) : Statement (.sbcAbs b1 b2) :=
  fun _ => ⟨rfl, show classify 0xED = (.sbc, .abs) from rfl⟩
theorem sbcIzy (b1 : Byte) : Statement (.sbcIzy b1) :=
  fun _ => ⟨rfl, show classify 0xF1 = (.sbc, .izy) from rfl⟩
theorem sbcZpx (b1 : Byte) : Statement (.sbcZpx b1) :=
  fun _ => ⟨rfl, show classify 0xF5 = (.sbc, .zpx) from rfl⟩
theorem sbcAby (b1 b2 : Byte) : Statement (.sbcAby b1 b2) :=
  fun _ => ⟨rfl, show classify 0xF9 = (.sbc, .aby) from rfl⟩
theorem sbcAbx (b1 b2 : Byte) : Statement (.sbcAbx b1 b2) :=
  fun _ => ⟨rfl, show classify 0xFD = (.sbc, .abx) from rfl⟩
theorem andIzx (b1 : Byte) : Statement (.andIzx b1) :=
  fun _ => ⟨rfl, show classify 0x21 = (.and, .izx) from rfl⟩
theorem andZp (b1 : Byte) : Statement (.andZp b1) :=
  fun _ => ⟨rfl, show classify 0x25 = (.and, .zp) from rfl⟩
theorem andImm (b1 : Byte) : Statement (.andImm b1) :=
  fun _ => ⟨rfl, show classify 0x29 = (.and, .imm) from rfl⟩
theorem andAbs (b1 b2 : Byte) : Statement (.andAbs b1 b2) :=
  fun _ => ⟨rfl, show classify 0x2D = (.and, .abs) from rfl⟩
theorem andIzy (b1 : Byte) : Statement (.andIzy b1) :=
  fun _ => ⟨rfl, show classify 0x31 = (.and, .izy) from rfl⟩
theorem andZpx (b1 : Byte) : Statement (.andZpx b1) :=
  fun _ => ⟨rfl, show classify 0x35 = (.and, .zpx) from rfl⟩
theorem andAby (b1 b2 : Byte) : Statement (.andAby b1 b2) :=
  fun _ => ⟨rfl, show classify 0x39 = (.and, .aby) from rfl⟩
theorem andAbx (b1 b2 : Byte) : Statement (.andAbx b1 b2) :=
  fun _ => ⟨rfl, show classify 0x3D = (.and, .abx) from rfl⟩
theorem oraIzx (b1 : Byte) : Statement (.oraIzx b1) :=
  fun _ => ⟨rfl, show classify 0x01 = (.ora, .izx) from rfl⟩
theorem oraZp (b1 : Byte) : Statement (.oraZp b1) :=
  fun _ => ⟨rfl, show classify 0x05 = (.ora, .zp) from rfl⟩
theorem oraImm (b1 : Byte) : Statement (.oraImm b1) :=
  fun _ => ⟨rfl, show classify 0x09 = (.ora, .imm) from rfl⟩
theorem oraAbs (b1 b2 : Byte) : Statement (.oraAbs b1 b2) :=
  fun _ => ⟨rfl, show classify 0x0D = (.ora, .abs) from rfl⟩
theorem oraIzy (b1 : Byte) : Statement (.oraIzy b1) :=
  fun _ => ⟨rfl, show classify 0x11 = (.ora, .izy) from rfl⟩
theorem oraZpx (b1 : Byte) : Statement (.oraZpx b1) :=
  fun _ => ⟨rfl, show classify 0x15 = (.ora, .zpx) from rfl⟩
theorem oraAby (b1 b2 : Byte) : Statement (.oraAby b1 b2) :=
  fun _ => ⟨rfl, show classify 0x19 = (.ora, .aby) from rfl⟩
theorem oraAbx (b1 b2 : Byte) : Statement (.oraAbx b1 b2) :=
  fun _ => ⟨rfl, show classify 0x1D = (.ora, .abx) from rfl⟩
theorem eorIzx (b1 : Byte) : Statement (.eorIzx b1) :=
  fun _ => ⟨rfl, show classify 0x41 = (.eor, .izx) from rfl⟩
theorem eorZp (b1 : Byte) : Statement (.eorZp b1) :=
  fun _ => ⟨rfl, show classify 0x45 = (.eor, .zp) from rfl⟩
theorem eorImm (b1 : Byte) : Statement (.eorImm b1) :=
  fun _ => ⟨rfl, show classify 0x49 = (.eor, .imm) from rfl⟩
theorem eorAbs (b1 b2 : Byte) : Statement (.eorAbs b1 b2) :=
  fun _ => ⟨rfl, show classify 0x4D = (.eor, .abs) from rfl⟩
theorem eorIzy (b1 : Byte) : Statement (.eorIzy b1) :=
  fun _ => ⟨rfl, show classify 0x51 = (.eor, .izy) from rfl⟩
theorem eorZpx (b1 : Byte) : Statement (.eorZpx b1) :=
  fun _ => ⟨rfl, show classify 0x55 = (.eor, .zpx) from rfl⟩
theorem eorAby (b1 b2 : Byte) : Statement (.eorAby b1 b2) :=
  fun _ => ⟨rfl, show classify 0x59 = (.eor, .aby) from rfl⟩
theorem eorAbx (b1 b2 : Byte) : Statement (.eorAbx b1 b2) :=
  fun _ => ⟨rfl, show classify 0x5D = (.eor, .abx) from rfl⟩
theorem bitZp (b1 : Byte) : Statement (.bitZp b1) :=
  fun _ => ⟨rfl, show classify 0x24 = (.bit, .zp) from rfl⟩
theorem bitAbs (b1 b2 : Byte) : Statement (.bitAbs b1 b2) :=
  fun _ => ⟨rfl, show classify 0x2C = (.bit, .abs) from rfl⟩
theorem cmpIzx (b1 : Byte) : Statement (.cmpIzx b1) :=
  fun _ => ⟨rfl, show classify 0xC1 = (.cmp, .izx) from rfl⟩
theorem cmpZp (b1 : Byte) : Statement (.cmpZp b1) :=
  fun _ => ⟨rfl, show classify 0xC5 = (.cmp, .zp) from rfl⟩
theorem cmpImm (b1 : Byte) : Statement (.cmpImm b1) :=
  fun _ => ⟨rfl, show classify 0xC9 = (.cmp, .imm) from rfl⟩
theorem cmpAbs (b1 b2 : Byte) : Statement (.cmpAbs b1 b2) :=
  fun _ => ⟨rfl, show classify 0xCD = (.cmp, .abs) from rfl⟩
theorem cmpIzy (b1 : Byte) : Statement (.cmpIzy b1) :=
  fun _ => ⟨rfl, show classify 0xD1 = (.cmp, .izy) from rfl⟩
theorem cmpZpx (b1 : Byte) : Statement (.cmpZpx b1) :=
  fun _ => ⟨rfl, show classify 0xD5 = (.cmp, .zpx) from rfl⟩
theorem cmpAby (b1 b2 : Byte) : Statement (.cmpAby b1 b2) :=
  fun _ => ⟨rfl, show classify 0xD9 = (.cmp, .aby) from rfl⟩
theorem cmpAbx (b1 b2 : Byte) : Statement (.cmpAbx b1 b2) :=
  fun _ => ⟨rfl, show classify 0xDD = (.cmp, .abx) from rfl⟩
theorem cpxImm (b1 : Byte) : Statement (.cpxImm b1) :=
  fun _ => ⟨rfl, show classify 0xE0 = (.cpx, .imm) from rfl⟩
theorem cpxZp (b1 : Byte) : Statement (.cpxZp b1) :=
  fun _ => ⟨rfl, show classify 0xE4 = (.cpx, .zp) from rfl⟩
theorem cpxAbs (b1 b2 : Byte) : Statement (.cpxAbs b1 b2) :=
  fun _ => ⟨rfl, show classify 0xEC = (.cpx, .abs) from rfl⟩
theorem cpyImm (b1 : Byte) : Statement (.cpyImm b1) :=
  fun _ => ⟨rfl, show classify 0xC0 = (.cpy, .imm) from rfl⟩
theorem cpyZp (b1 : Byte) : Statement (.cpyZp b1) :=
  fun _ => ⟨rfl, show classify 0xC4 = (.cpy, .zp) from rfl⟩
theorem cpyAbs (b1 b2 : Byte) : Statement (.cpyAbs b1 b2) :=
  fun _ => ⟨rfl, show classify 0xCC = (.cpy, .abs) from rfl⟩
theorem incZp (b1 : Byte) : Statement (.incZp b1) :=
  fun _ => ⟨rfl, show classify 0xE6 = (.inc, .zp) from rfl⟩
theorem incAbs (b1 b2 : Byte) : Statement (.incAbs b1 b2) :=
  fun _ => ⟨rfl, show classify 0xEE = (.inc, .abs) from rfl⟩
theorem incZpx (b1 : Byte) : Statement (.incZpx b1) :=
  fun _ => ⟨rfl, show classify 0xF6 = (.inc, .zpx) from rfl⟩
theorem incAbx (b1 b2 : Byte) : Statement (.incAbx b1 b2) :=
  fun _ => ⟨rfl, show classify 0xFE = (.inc, .abx) from rfl⟩
theorem decZp (b1 : Byte) : Statement (.decZp b1) :=
  fun _ => ⟨rfl, show classify 0xC6 = (.dec, .zp) from rfl⟩
theorem decAbs (b1 b2 : Byte) : Statement (.decAbs b1 b2) :=
  fun _ => ⟨rfl, show classify 0xCE = (.dec, .abs) from rfl⟩
theorem decZpx (b1 : Byte) : Statement (.decZpx b1) :=
  fun _ => ⟨rfl, show classify 0xD6 = (.dec, .zpx) from rfl⟩
theorem decAbx (b1 b2 : Byte) : Statement (.decAbx b1 b2) :=
  fun _ => ⟨rfl, show classify 0xDE = (.dec, .abx) from rfl⟩
theorem inx : Statement (.inx) :=
  fun _ => ⟨rfl, show classify 0xE8 = (.inx, .imp) from rfl⟩
theorem iny : Statement (.iny) :=
  fun _ => ⟨rfl, show classify 0xC8 = (.iny, .imp) from rfl⟩
theorem dex : Statement (.dex) :=
  fun _ => ⟨rfl, show classify 0xCA = (.dex, .imp) from rfl⟩
theorem dey : Statement (.dey) :=
  fun _ => ⟨rfl, show classify 0x88 = (.dey, .imp) from rfl⟩
theorem aslZp (b1 : Byte) : Statement (.aslZp b1) :=
  fun _ => ⟨rfl, show classify 0x06 = (.asl, .zp) from rfl⟩
theorem aslAcc : Statement (.aslAcc) :=
  fun _ => ⟨rfl, show classify 0x0A = (.asl, .acc) from rfl⟩
theorem aslAbs (b1 b2 : Byte) : Statement (.aslAbs b1 b2) :=
  fun _ => ⟨rfl, show classify 0x0E = (.asl, .abs) from rfl⟩
theorem aslZpx (b1 : Byte) : Statement (.aslZpx b1) :=
  fun _ => ⟨rfl, show classify 0x16 = (.asl, .zpx) from rfl⟩
theorem aslAbx (b1 b2 : Byte) : Statement (.aslAbx b1 b2) :=
  fun _ => ⟨rfl, show classify 0x1E = (.asl, .abx) from rfl⟩
theorem lsrZp (b1 : Byte) : Statement (.lsrZp b1) :=
  fun _ => ⟨rfl, show classify 0x46 = (.lsr, .zp) from rfl⟩
theorem lsrAcc : Statement (.lsrAcc) :=
  fun _ => ⟨rfl, show classify 0x4A = (.lsr, .acc) from rfl⟩
theorem lsrAbs (b1 b2 : Byte) : Statement (.lsrAbs b1 b2) :=
  fun _ => ⟨rfl, show classify 0x4E = (.lsr, .abs) from rfl⟩
theorem lsrZpx (b1 : Byte) : Statement (.lsrZpx b1) :=
  fun _ => ⟨rfl, show classify 0x56 = (.lsr, .zpx) from rfl⟩
theorem lsrAbx (b1 b2 : Byte) : Statement (.lsrAbx b1 b2) :=
  fun _ => ⟨rfl, show classify 0x5E = (.lsr, .abx) from rfl⟩
theorem rolZp (b1 : Byte) : Statement (.rolZp b1) :=
  fun _ => ⟨rfl, show classify 0x26 = (.rol, .zp) from rfl⟩
theorem rolAcc : Statement (.rolAcc) :=
  fun _ => ⟨rfl, show classify 0x2A = (.rol, .acc) from rfl⟩
theorem rolAbs (b1 b2 : Byte) : Statement (.rolAbs b1 b2) :=
  fun _ => ⟨rfl, show classify 0x2E = (.rol, .abs) from rfl⟩
theorem rolZpx (b1 : Byte) : Statement (.rolZpx b1) :=
  fun _ => ⟨rfl, show classify 0x36 = (.rol, .zpx) from rfl⟩
theorem rolAbx (b1 b2 : Byte) : Statement (.rolAbx b1 b2) :=
  fun _ => ⟨rfl, show classify 0x3E = (.rol, .abx) from rfl⟩
theorem rorZp (b1 : Byte) : Statement (.rorZp b1) :=
  fun _ => ⟨rfl, show classify 0x66 = (.ror, .zp) from rfl⟩
theorem rorAcc : Statement (.rorAcc) :=
  fun _ => ⟨rfl, show classify 0x6A = (.ror, .acc) from rfl⟩
theorem rorAbs (b1 b2 : Byte) : Statement (.rorAbs b1 b2) :=
  fun _ => ⟨rfl, show classify 0x6E = (.ror, .abs) from rfl⟩
theorem rorZpx (b1 : Byte) : Statement (.rorZpx b1) :=
  fun _ => ⟨rfl, show classify 0x76 = (.ror, .zpx) from rfl⟩
theorem rorAbx (b1 b2 : Byte) : Statement (.rorAbx b1 b2) :=
  fun _ => ⟨rfl, show classify 0x7E = (.ror, .abx) from rfl⟩
theorem jmpAbs (b1 b2 : Byte) : Statement (.jmpAbs b1 b2) :=
  fun _ => ⟨rfl, show classify 0x4C = (.jmp, .abs) from rfl⟩
theorem jmpInd (b1 b2 : Byte) : Statement (.jmpInd b1 b2) :=
  fun _ => ⟨rfl, show classify 0x6C = (.jmp, .ind) from rfl⟩
theorem jsr (b1 b2 : Byte) : Statement (.jsr b1 b2) :=
  fun _ => ⟨rfl, show classify 0x20 = (.jsr, .abs) from rfl⟩
theorem rts : Statement (.rts) :=
  fun _ => ⟨rfl, show classify 0x60 = (.rts, .imp) from rfl⟩
theorem rti : Statement (.rti) :=
  fun _ => ⟨rfl, show classify 0x40 = (.rti, .imp) from rfl⟩
theorem brk : Statement (.brk) :=
  fun _ => ⟨rfl, show classify 0x00 = (.brk, .imp) from rfl⟩
theorem bcc (b1 : Byte) : Statement (.bcc b1) :=
  fun _ => ⟨rfl, show classify 0x90 = (.bcc, .rel) from rfl⟩
theorem bcs (b1 : Byte) : Statement (.bcs b1) :=
  fun _ => ⟨rfl, show classify 0xB0 = (.bcs, .rel) from rfl⟩
theorem beq (b1 : Byte) : Statement (.beq b1) :=
  fun _ => ⟨rfl, show classify 0xF0 = (.beq, .rel) from rfl⟩
theorem bmi (b1 : Byte) : Statement (.bmi b1) :=
  fun _ => ⟨rfl, show classify 0x30 = (.bmi, .rel) from rfl⟩
theorem bne (b1 : Byte) : Statement (.bne b1) :=
  fun _ => ⟨rfl, show classify 0xD0 = (.bne, .rel) from rfl⟩
theorem bpl (b1 : Byte) : Statement (.bpl b1) :=
  fun _ => ⟨rfl, show classify 0x10 = (.bpl, .rel) from rfl⟩
theorem bvc (b1 : Byte) : Statement (.bvc b1) :=
  fun _ => ⟨rfl, show classify 0x50 = (.bvc, .rel) from rfl⟩
theorem bvs (b1 : Byte) : Statement (.bvs b1) :=
  fun _ => ⟨rfl, show classify 0x70 = (.bvs, .rel) from rfl⟩
theorem clc : Statement (.clc) :=
  fun _ => ⟨rfl, show classify 0x18 = (.clc, .imp) from rfl⟩
theorem cld : Statement (.cld) :=
  fun _ => ⟨rfl, show classify 0xD8 = (.cld, .imp) from rfl⟩
theorem cli : Statement (.cli) :=
  fun _ => ⟨rfl, show classify 0x58 = (.cli, .imp) from rfl⟩
theorem clv : Statement (.clv) :=
  fun _ => ⟨rfl, show classify 0xB8 = (.clv, .imp) from rfl⟩
theorem sec : Statement (.sec) :=
  fun _ => ⟨rfl, show classify 0x38 = (.sec, .imp) from rfl⟩
theorem sed : Statement (.sed) :=
  fun _ => ⟨rfl, show classify 0xF8 = (.sed, .imp) from rfl⟩
theorem sei : Statement (.sei) :=
  fun _ => ⟨rfl, show classify 0x78 = (.sei, .imp) from rfl⟩
theorem nop : Statement (.nop) :=
  fun _ => ⟨rfl, show classify 0xEA = (.nop, .imp) from rfl⟩
theorem raw (op : Byte) : Statement (.raw op) := 
  fun h => ⟨rfl, (undefined_iff_raw op).1 h⟩

end Sys2Proof.Laws.Encoding
end

