-- ==== Sys2Proof/Laws/Step.lean ====
section
/-! SUPPORT. What an instruction's meaning and one step can do, said once. -/

namespace Sys2Proof.Machine

open Sys2Proof.Laws

/-- Every meaning is the decode step of its own mnemonic, mode and encoded bytes (R113). -/
theorem exec_eq_decodeStep (i : Instr) (s : State) :
    exec i s = decodeStep i.mnemonic i.mode ((encode i).headD 0) (encode i)[1]? (encode i)[2]? s := by
  cases i <;> rfl

/-- The step of an instruction inside the buffer is the meaning of the instruction its bytes encode. -/
theorem step_of_fits {s : State} (hr : s.status = .running) (hc : s.cur < s.n)
    (hf : s.cur + lenOf (s.buf.read s.cur) ≤ s.n) :
    ∃ i, encode i = bytesFrom s.buf s.cur (lenOf (s.buf.read s.cur)) ∧ i.WellFormed = true ∧
      (i.mnemonic, i.mode) = classify (s.buf.read s.cur) ∧ step s = exec i s := by
  have h := decode_agrees_with_map (s.buf.read s.cur) (s.buf.read (s.cur + 1)) (s.buf.read (s.cur + 2))
  obtain ⟨i, -, hm, he, hw⟩ := h
  have hl := lenOf_cases (s.buf.read s.cur)
  have hb : [s.buf.read s.cur, s.buf.read (s.cur + 1), s.buf.read (s.cur + 2)].take (lenOf (s.buf.read s.cur)) =
      bytesFrom s.buf s.cur (lenOf (s.buf.read s.cur)) := by
    rcases hl with hl | hl | hl <;> rw [hl] <;> rfl
  rw [hb] at he
  refine ⟨i, he, hw, hm, ?_⟩
  have hcons : s.buf.read s.cur :: bytesFrom s.buf (s.cur + 1) (lenOf (s.buf.read s.cur) - 1) = encode i := by
    rw [he]
    rcases hl with hl | hl | hl <;> rw [hl] <;> rfl
  have hd : decode (encode i) = .ok (i, []) := by
    cases i with
    | raw op => exact decode_undefined op [] hw
    | _ => rfl
  rw [step, whenEnabled_ready hr hc, fetch_of_fits hc hf, hcons]
  simp only [hd]

/-- The step of an instruction that reaches past the buffer takes the truncated-instruction error. -/
theorem step_of_cut {s : State} (hr : s.status = .running) (hc : s.cur < s.n)
    (hf : s.n < s.cur + lenOf (s.buf.read s.cur)) :
    step s = .next (raiseTruncated (s.buf.read s.cur) (lenOf (s.buf.read s.cur)) s) := by
  have hlen : ([] : List Byte).length + 1 < lenOf (s.buf.read s.cur) := by simp; omega
  rw [step, whenEnabled_ready hr hc, fetch_of_cut hc hf]
  simp only [decode_truncated _ _ hlen, stopDecoding]

/-- Everything a step that answers a next state can do: the line of the classified instruction with the bytes
at the cursor and the cursor past them, or the truncated-instruction error. -/
theorem step_next {s t : State} (h : step s = .next t) :
    s.status = .running ∧ s.cur < s.n ∧
      ((s.n < s.cur + lenOf (s.buf.read s.cur) ∧
          t = raiseTruncated (s.buf.read s.cur) (lenOf (s.buf.read s.cur)) s) ∨
        (s.cur + lenOf (s.buf.read s.cur) ≤ s.n ∧ ∃ i : Instr, i.WellFormed = true ∧
          encode i = bytesFrom s.buf s.cur (lenOf (s.buf.read s.cur)) ∧ i.len = lenOf (s.buf.read s.cur) ∧
          t = advance i.len (emit (formatLine s.base s.rawMnemonic s.cur i.mnemonic i.mode
            (s.buf.read s.cur) (encode i)[1]? (encode i)[2]?) s))) := by
  obtain ⟨hr, hc, -⟩ := whenEnabled_next h
  refine ⟨hr, hc, ?_⟩
  by_cases hf : s.cur + lenOf (s.buf.read s.cur) ≤ s.n
  · obtain ⟨i, he, hw, hm, hs⟩ := step_of_fits hr hc hf
    have hlen : i.len = lenOf (s.buf.read s.cur) := by rw [← encode_length, he, bytesFrom_length]
    have hop : (encode i).headD 0 = s.buf.read s.cur := by
      rw [he]
      rcases lenOf_cases (s.buf.read s.cur) with hl | hl | hl <;> rw [hl] <;> rfl
    have hmode : i.mode.len = lenOf (s.buf.read s.cur) := hlen
    rw [hs, exec_eq_decodeStep, decodeStep_of_fits hr hc (hmode ▸ hf), hop] at h
    refine .inr ⟨hf, i, hw, he, hlen, ?_⟩
    simpa [Instr.len] using h.symm
  · rw [step_of_cut hr hc (by omega)] at h
    exact .inl ⟨by omega, by simpa using h.symm⟩

end Sys2Proof.Machine
end

