-- ==== Sys2Proof/Laws/Run.lean ====
section
/-! SUPPORT. Runs of the block: one step at a time, said once. -/

namespace Sys2Proof.Machine

/-- The unfolding of a run of `k + 1` steps, for any machine. -/
theorem run_succ (M : Host.Core) (k : Nat) (s : M.State) :
    M.run (k + 1) s =
      match M.step s with
      | .next s' => M.run k s'
      | .fault f => .fault f
      | .refused r => .refused r := rfl

/-- No steps leave the state as it is. -/
theorem run_zero {s t : State} (h : Host.Core.run core 0 s = .next t) : s = t :=
  Host.Outcome.next.inj h

/-- A run of `k + 1` steps from a state that steps is the run of `k` steps from the next. -/
theorem run_succ_of_next {s s' : State} (h : step s = .next s') (k : Nat) :
    Host.Core.run core (k + 1) s = Host.Core.run core k s' := by
  have hr := run_succ core k s
  have hc : core.step s = .next s' := h
  rw [hc] at hr
  exact hr

/-- A run that goes on at all takes its first step. -/
theorem run_succ_next {s t : State} {k : Nat} (h : Host.Core.run core (k + 1) s = .next t) :
    ∃ s', step s = .next s' ∧ Host.Core.run core k s' = .next t := by
  have hr := run_succ core k s
  cases hs : step s with
  | next s' => exact ⟨s', rfl, (run_succ_of_next hs k).symm.trans h⟩
  | fault f =>
    have hc : core.step s = .fault f := hs
    rw [hc] at hr
    exact nomatch hr.symm.trans h
  | refused r =>
    have hc : core.step s = .refused r := hs
    rw [hc] at hr
    exact nomatch hr.symm.trans h

end Sys2Proof.Machine
end

