-- ==== Sys2Proof/Laws/Text.lean ====
section
/-! SUPPORT. The lengths of the fixed-width pieces of a line. -/

namespace Sys2Proof.Machine

@[simp] theorem hex2_length (b : Byte) : (hex2 b).length = 2 := rfl

@[simp] theorem hex4_length (v : Addr) : (hex4 v).length = 4 := rfl

@[simp] theorem byteSlot_length (b : Option Byte) : (byteSlot b).length = 2 := by
  cases b <;> rfl

@[simp] theorem byteSlot_none : byteSlot none = [' ', ' '] := rfl

@[simp] theorem byteSlot_some (b : Byte) : byteSlot (some b) = hex2 b := rfl

@[simp] theorem hexOperand_some (b : Byte) : hexOperand (some b) = hex2 b := rfl

@[simp] theorem hexOperand_none : hexOperand none = [] := rfl

/-- Mode `rel` is annotated, and no other (R111). -/
theorem annotation_of_ne_rel {mode : Mode} (h : mode ≠ .rel) (base cur b1) :
    annotation base cur mode b1 = [] := by
  cases mode <;> first | rfl | exact absurd rfl h

/-- The annotation of a branch: nine characters, the target the last four. -/
theorem annotation_rel (base : Addr) (cur : Nat) (b : Byte) :
    annotation base cur .rel (some b) = ['\t', '\t', ';', ' ', '$'] ++ hex4 (branchTarget base cur 2 b) := rfl

end Sys2Proof.Machine
end

