-- ==== Sys2Proof/Tests/Slice0.lean ====
section
/-! SUPPORT. Tests of the model against values from the spec, and a witness for the hypotheses of every
statement. Expected lines, targets and error records are those of spec/95_test_vectors.md (the vector's
name stands in the theorem's docstring) or the examples of the rule named there. -/

namespace Sys2Proof.Tests

open Sys2Proof.Machine Sys2Proof.Safety

/-! ## Helpers -/

/-- A pass about to start over these bytes, with the vectors' `RAW_MNEMONIC`. -/
def passAt (base : Addr) (bytes : List Byte) : State := startPass bytes base ".byte".toList ErrRecord.reset

/-- The same pass with its cursor elsewhere. -/
def passFrom (base : Addr) (bytes : List Byte) (cur : Nat) : State := { passAt base bytes with cur := cur }

/-- The next state of a result. -/
def nextOf : Result → Option State
  | .next t => some t
  | _ => none

/-- The lines, cursor and status one step leaves. -/
def afterStep (s : State) : Option (List Text × Nat × PassStatus) :=
  (nextOf (step s)).map fun t => (t.out, t.cur, t.status)

/-- The lines, cursor, status and error record two steps leave. -/
def afterTwo (s : State) : Option (List Text × Nat × PassStatus × ErrRecord) :=
  ((nextOf (step s)).bind fun t => nextOf (step t)).map fun t => (t.out, t.cur, t.status, t.err)

/-- One step over these bytes at base 0x5000 gives this one line and ends the pass. -/
def rendersTo (bytes : List Byte) (line : String) : Bool :=
  afterStep (passAt 0x5000 bytes) = some ([line.toList], bytes.length, .done)

/-- One step takes the truncated-instruction error with this record, and emits no line. -/
def truncatesTo (s : State) (err : ErrRecord) : Bool :=
  (nextOf (step s)).map (fun t => (t.out, t.cur, t.status, t.err)) = some ([], s.cur, .truncated, err)

/-! ## WellFormed: the one check refuses -/

/-- R90: 0xA9 has a defined instruction, so it is no raw data byte. -/
theorem test_raw_of_a_defined_opcode_is_ill_formed : (Instr.raw 0xA9).WellFormed = false := by decide

theorem test_raw_of_an_undefined_byte_is_well_formed :
    (Instr.raw 0x02).WellFormed = true ∧ (Instr.raw 0xFF).WellFormed = true := by decide

/-- R82, R90: the bytes listed as undefined are those the map leaves empty, 105 of 256. -/
theorem test_undefined_bytes_are_the_empty_cells :
    undefinedBytes.length = 105 ∧
      ∀ op : Byte, (classify op).2 = .raw ↔ op ∈ undefinedBytes := by decide +kernel

/-! ## Decode: words written out from the table's rows -/

theorem test_decode_load_and_store :
    decodeTableWord 16 0b00000001_10101001 = some (.ldaImm 0x01) ∧
      decodeTableWord 24 0b00100000_00000000_10001101 = some (.staAbs 0x00 0x20) ∧
      decodeTableWord 16 0b00010000_10110110 = some (.ldxZpy 0x10) ∧
      decodeTableWord 24 0b00010010_00110100_10111100 = some (.ldyAbx 0x34 0x12) ∧
      decodeTableWord 16 0b11111111_10000001 = some (.staIzx 0xFF) := by decide

theorem test_decode_transfer_and_stack :
    decodeTableWord 8 0b10101010 = some .tax ∧ decodeTableWord 8 0b10011010 = some .txs ∧
      decodeTableWord 8 0b10111010 = some .tsx ∧ decodeTableWord 8 0b00001000 = some .php := by decide

theorem test_decode_arithmetic_and_logic :
    decodeTableWord 16 0b00110100_01101001 = some (.adcImm 0x34) ∧
      decodeTableWord 24 0b00010010_00110100_11111001 = some (.sbcAby 0x34 0x12) ∧
      decodeTableWord 16 0b00110100_00100100 = some (.bitZp 0x34) ∧
      decodeTableWord 16 0b00110100_11010001 = some (.cmpIzy 0x34) ∧
      decodeTableWord 16 0b00110100_11010110 = some (.decZpx 0x34) ∧
      decodeTableWord 8 0b11001010 = some .dex := by decide

theorem test_decode_shift_and_rotate :
    decodeTableWord 8 0b00001010 = some .aslAcc ∧
      decodeTableWord 24 0b00010010_00110100_01101110 = some (.rorAbs 0x34 0x12) ∧
      decodeTableWord 16 0b00110100_01010110 = some (.lsrZpx 0x34) := by decide

theorem test_decode_control :
    decodeTableWord 24 0b11111111_11111100_01101100 = some (.jmpInd 0xFC 0xFF) ∧
      decodeTableWord 24 0b01010000_00000111_00100000 = some (.jsr 0x07 0x50) ∧
      decodeTableWord 16 0b11111011_10010000 = some (.bcc 0xFB) ∧
      decodeTableWord 16 0b11111101_11010000 = some (.bne 0xFD) ∧
      decodeTableWord 8 0b00000000 = some .brk := by decide

theorem test_decode_flags_and_raw :
    decodeTableWord 8 0b10111000 = some .clv ∧ decodeTableWord 8 0b11101010 = some .nop ∧
      decodeTableWord 8 0b00000010 = some (.raw 0x02) ∧
      decodeTableWord 8 0b11101011 = some (.raw 0xEB) := by decide

/-! ## Decode: every constructor, by its row's opcode byte and the operand bytes 0x34, 0x12

The words are the rows of spec/opcode_table.json; the raw data byte's are in `test_decode_flags_and_raw`. -/

theorem test_every_opcode_load_and_store :
    decodeTableWord 16 0x34A1 = some (.ldaIzx 0x34) ∧ decodeTableWord 16 0x34A5 = some (.ldaZp 0x34) ∧
      decodeTableWord 16 0x34A9 = some (.ldaImm 0x34) ∧
      decodeTableWord 24 0x1234AD = some (.ldaAbs 0x34 0x12) ∧
      decodeTableWord 16 0x34B1 = some (.ldaIzy 0x34) ∧ decodeTableWord 16 0x34B5 = some (.ldaZpx 0x34) ∧
      decodeTableWord 24 0x1234B9 = some (.ldaAby 0x34 0x12) ∧
      decodeTableWord 24 0x1234BD = some (.ldaAbx 0x34 0x12) ∧
      decodeTableWord 16 0x34A2 = some (.ldxImm 0x34) ∧ decodeTableWord 16 0x34A6 = some (.ldxZp 0x34) ∧
      decodeTableWord 24 0x1234AE = some (.ldxAbs 0x34 0x12) ∧
      decodeTableWord 16 0x34B6 = some (.ldxZpy 0x34) ∧
      decodeTableWord 24 0x1234BE = some (.ldxAby 0x34 0x12) ∧
      decodeTableWord 16 0x34A0 = some (.ldyImm 0x34) ∧ decodeTableWord 16 0x34A4 = some (.ldyZp 0x34) ∧
      decodeTableWord 24 0x1234AC = some (.ldyAbs 0x34 0x12) ∧
      decodeTableWord 16 0x34B4 = some (.ldyZpx 0x34) ∧
      decodeTableWord 24 0x1234BC = some (.ldyAbx 0x34 0x12) ∧
      decodeTableWord 16 0x3481 = some (.staIzx 0x34) ∧ decodeTableWord 16 0x3485 = some (.staZp 0x34) ∧
      decodeTableWord 24 0x12348D = some (.staAbs 0x34 0x12) ∧
      decodeTableWord 16 0x3491 = some (.staIzy 0x34) ∧ decodeTableWord 16 0x3495 = some (.staZpx 0x34) ∧
      decodeTableWord 24 0x123499 = some (.staAby 0x34 0x12) ∧
      decodeTableWord 24 0x12349D = some (.staAbx 0x34 0x12) ∧
      decodeTableWord 16 0x3486 = some (.stxZp 0x34) ∧
      decodeTableWord 24 0x12348E = some (.stxAbs 0x34 0x12) ∧
      decodeTableWord 16 0x3496 = some (.stxZpy 0x34) ∧ decodeTableWord 16 0x3484 = some (.styZp 0x34) ∧
      decodeTableWord 24 0x12348C = some (.styAbs 0x34 0x12) ∧
      decodeTableWord 16 0x3494 = some (.styZpx 0x34) := by decide

theorem test_every_opcode_transfer_and_stack :
    decodeTableWord 8 0xAA = some .tax ∧ decodeTableWord 8 0xA8 = some .tay ∧
      decodeTableWord 8 0xBA = some .tsx ∧ decodeTableWord 8 0x8A = some .txa ∧
      decodeTableWord 8 0x9A = some .txs ∧ decodeTableWord 8 0x98 = some .tya ∧
      decodeTableWord 8 0x48 = some .pha ∧ decodeTableWord 8 0x08 = some .php ∧
      decodeTableWord 8 0x68 = some .pla ∧ decodeTableWord 8 0x28 = some .plp := by decide

theorem test_every_opcode_add_subtract_and :
    decodeTableWord 16 0x3461 = some (.adcIzx 0x34) ∧ decodeTableWord 16 0x3465 = some (.adcZp 0x34) ∧
      decodeTableWord 16 0x3469 = some (.adcImm 0x34) ∧
      decodeTableWord 24 0x12346D = some (.adcAbs 0x34 0x12) ∧
      decodeTableWord 16 0x3471 = some (.adcIzy 0x34) ∧ decodeTableWord 16 0x3475 = some (.adcZpx 0x34) ∧
      decodeTableWord 24 0x123479 = some (.adcAby 0x34 0x12) ∧
      decodeTableWord 24 0x12347D = some (.adcAbx 0x34 0x12) ∧
      decodeTableWord 16 0x34E1 = some (.sbcIzx 0x34) ∧ decodeTableWord 16 0x34E5 = some (.sbcZp 0x34) ∧
      decodeTableWord 16 0x34E9 = some (.sbcImm 0x34) ∧
      decodeTableWord 24 0x1234ED = some (.sbcAbs 0x34 0x12) ∧
      decodeTableWord 16 0x34F1 = some (.sbcIzy 0x34) ∧ decodeTableWord 16 0x34F5 = some (.sbcZpx 0x34) ∧
      decodeTableWord 24 0x1234F9 = some (.sbcAby 0x34 0x12) ∧
      decodeTableWord 24 0x1234FD = some (.sbcAbx 0x34 0x12) ∧
      decodeTableWord 16 0x3421 = some (.andIzx 0x34) ∧ decodeTableWord 16 0x3425 = some (.andZp 0x34) ∧
      decodeTableWord 16 0x3429 = some (.andImm 0x34) ∧
      decodeTableWord 24 0x12342D = some (.andAbs 0x34 0x12) ∧
      decodeTableWord 16 0x3431 = some (.andIzy 0x34) ∧ decodeTableWord 16 0x3435 = some (.andZpx 0x34) ∧
      decodeTableWord 24 0x123439 = some (.andAby 0x34 0x12) ∧
      decodeTableWord 24 0x12343D = some (.andAbx 0x34 0x12) := by decide

theorem test_every_opcode_or_bit_compare :
    decodeTableWord 16 0x3401 = some (.oraIzx 0x34) ∧ decodeTableWord 16 0x3405 = some (.oraZp 0x34) ∧
      decodeTableWord 16 0x3409 = some (.oraImm 0x34) ∧
      decodeTableWord 24 0x12340D = some (.oraAbs 0x34 0x12) ∧
      decodeTableWord 16 0x3411 = some (.oraIzy 0x34) ∧ decodeTableWord 16 0x3415 = some (.oraZpx 0x34) ∧
      decodeTableWord 24 0x123419 = some (.oraAby 0x34 0x12) ∧
      decodeTableWord 24 0x12341D = some (.oraAbx 0x34 0x12) ∧
      decodeTableWord 16 0x3441 = some (.eorIzx 0x34) ∧ decodeTableWord 16 0x3445 = some (.eorZp 0x34) ∧
      decodeTableWord 16 0x3449 = some (.eorImm 0x34) ∧
      decodeTableWord 24 0x12344D = some (.eorAbs 0x34 0x12) ∧
      decodeTableWord 16 0x3451 = some (.eorIzy 0x34) ∧ decodeTableWord 16 0x3455 = some (.eorZpx 0x34) ∧
      decodeTableWord 24 0x123459 = some (.eorAby 0x34 0x12) ∧
      decodeTableWord 24 0x12345D = some (.eorAbx 0x34 0x12) ∧
      decodeTableWord 16 0x3424 = some (.bitZp 0x34) ∧
      decodeTableWord 24 0x12342C = some (.bitAbs 0x34 0x12) ∧
      decodeTableWord 16 0x34C1 = some (.cmpIzx 0x34) ∧ decodeTableWord 16 0x34C5 = some (.cmpZp 0x34) ∧
      decodeTableWord 16 0x34C9 = some (.cmpImm 0x34) ∧
      decodeTableWord 24 0x1234CD = some (.cmpAbs 0x34 0x12) ∧
      decodeTableWord 16 0x34D1 = some (.cmpIzy 0x34) ∧ decodeTableWord 16 0x34D5 = some (.cmpZpx 0x34) ∧
      decodeTableWord 24 0x1234D9 = some (.cmpAby 0x34 0x12) ∧
      decodeTableWord 24 0x1234DD = some (.cmpAbx 0x34 0x12) := by decide

theorem test_every_opcode_compare_index_and_count :
    decodeTableWord 16 0x34E0 = some (.cpxImm 0x34) ∧ decodeTableWord 16 0x34E4 = some (.cpxZp 0x34) ∧
      decodeTableWord 24 0x1234EC = some (.cpxAbs 0x34 0x12) ∧
      decodeTableWord 16 0x34C0 = some (.cpyImm 0x34) ∧ decodeTableWord 16 0x34C4 = some (.cpyZp 0x34) ∧
      decodeTableWord 24 0x1234CC = some (.cpyAbs 0x34 0x12) ∧
      decodeTableWord 16 0x34E6 = some (.incZp 0x34) ∧
      decodeTableWord 24 0x1234EE = some (.incAbs 0x34 0x12) ∧
      decodeTableWord 16 0x34F6 = some (.incZpx 0x34) ∧
      decodeTableWord 24 0x1234FE = some (.incAbx 0x34 0x12) ∧
      decodeTableWord 16 0x34C6 = some (.decZp 0x34) ∧
      decodeTableWord 24 0x1234CE = some (.decAbs 0x34 0x12) ∧
      decodeTableWord 16 0x34D6 = some (.decZpx 0x34) ∧
      decodeTableWord 24 0x1234DE = some (.decAbx 0x34 0x12) ∧ decodeTableWord 8 0xE8 = some .inx ∧
      decodeTableWord 8 0xC8 = some .iny ∧ decodeTableWord 8 0xCA = some .dex ∧
      decodeTableWord 8 0x88 = some .dey := by decide

theorem test_every_opcode_shift_and_rotate :
    decodeTableWord 16 0x3406 = some (.aslZp 0x34) ∧ decodeTableWord 8 0x0A = some .aslAcc ∧
      decodeTableWord 24 0x12340E = some (.aslAbs 0x34 0x12) ∧
      decodeTableWord 16 0x3416 = some (.aslZpx 0x34) ∧
      decodeTableWord 24 0x12341E = some (.aslAbx 0x34 0x12) ∧
      decodeTableWord 16 0x3446 = some (.lsrZp 0x34) ∧ decodeTableWord 8 0x4A = some .lsrAcc ∧
      decodeTableWord 24 0x12344E = some (.lsrAbs 0x34 0x12) ∧
      decodeTableWord 16 0x3456 = some (.lsrZpx 0x34) ∧
      decodeTableWord 24 0x12345E = some (.lsrAbx 0x34 0x12) ∧
      decodeTableWord 16 0x3426 = some (.rolZp 0x34) ∧ decodeTableWord 8 0x2A = some .rolAcc ∧
      decodeTableWord 24 0x12342E = some (.rolAbs 0x34 0x12) ∧
      decodeTableWord 16 0x3436 = some (.rolZpx 0x34) ∧
      decodeTableWord 24 0x12343E = some (.rolAbx 0x34 0x12) ∧
      decodeTableWord 16 0x3466 = some (.rorZp 0x34) ∧ decodeTableWord 8 0x6A = some .rorAcc ∧
      decodeTableWord 24 0x12346E = some (.rorAbs 0x34 0x12) ∧
      decodeTableWord 16 0x3476 = some (.rorZpx 0x34) ∧
      decodeTableWord 24 0x12347E = some (.rorAbx 0x34 0x12) := by decide

theorem test_every_opcode_control :
    decodeTableWord 24 0x12344C = some (.jmpAbs 0x34 0x12) ∧
      decodeTableWord 24 0x12346C = some (.jmpInd 0x34 0x12) ∧
      decodeTableWord 24 0x123420 = some (.jsr 0x34 0x12) ∧ decodeTableWord 8 0x60 = some .rts ∧
      decodeTableWord 8 0x40 = some .rti ∧ decodeTableWord 8 0x00 = some .brk ∧
      decodeTableWord 16 0x3490 = some (.bcc 0x34) ∧ decodeTableWord 16 0x34B0 = some (.bcs 0x34) ∧
      decodeTableWord 16 0x34F0 = some (.beq 0x34) ∧ decodeTableWord 16 0x3430 = some (.bmi 0x34) ∧
      decodeTableWord 16 0x34D0 = some (.bne 0x34) ∧ decodeTableWord 16 0x3410 = some (.bpl 0x34) ∧
      decodeTableWord 16 0x3450 = some (.bvc 0x34) ∧ decodeTableWord 16 0x3470 = some (.bvs 0x34) := by decide

theorem test_every_opcode_flags :
    decodeTableWord 8 0x18 = some .clc ∧ decodeTableWord 8 0xD8 = some .cld ∧
      decodeTableWord 8 0x58 = some .cli ∧ decodeTableWord 8 0xB8 = some .clv ∧
      decodeTableWord 8 0x38 = some .sec ∧ decodeTableWord 8 0xF8 = some .sed ∧
      decodeTableWord 8 0x78 = some .sei ∧ decodeTableWord 8 0xEA = some .nop := by decide

/-! ## Lines -/

/-- S1 to S4, W3, F4: loads and stores. -/
theorem test_lines_load_and_store :
    rendersTo [0xA9, 0x01] "5000 A9 01    LDA #$01" ∧ rendersTo [0xA5, 0x10] "5000 A5 10    LDA $10" ∧
      rendersTo [0xAD, 0xFF, 0x00] "5000 AD FF 00 LDA $00FF" ∧
      rendersTo [0xB6, 0x34] "5000 B6 34    LDX $34,Y" ∧
      rendersTo [0xB9, 0x34, 0x12] "5000 B9 34 12 LDA $1234,Y" ∧
      rendersTo [0xBC, 0x34, 0x12] "5000 BC 34 12 LDY $1234,X" ∧
      rendersTo [0x8D, 0x00, 0x20] "5000 8D 00 20 STA $2000" ∧
      rendersTo [0x96, 0x80] "5000 96 80    STX $80,Y" ∧
      rendersTo [0x81, 0xFF] "5000 81 FF    STA ($FF,X)" ∧
      rendersTo [0x91, 0x00] "5000 91 00    STA ($00),Y" := by decide

/-- V-ALL: transfers and stack. -/
theorem test_lines_transfer_and_stack :
    rendersTo [0x08] "5000 08       PHP" ∧ rendersTo [0x28] "5000 28       PLP" ∧
      rendersTo [0xBA] "5000 BA       TSX" := by decide

/-- V-ALL: arithmetic and logic. -/
theorem test_lines_arithmetic_and_logic :
    rendersTo [0x01, 0x34] "5000 01 34    ORA ($34,X)" ∧ rendersTo [0x31, 0xFF] "5000 31 FF    AND ($FF),Y" ∧
      rendersTo [0x2C, 0x34, 0x12] "5000 2C 34 12 BIT $1234" ∧
      rendersTo [0xC0, 0x34] "5000 C0 34    CPY #$34" ∧ rendersTo [0xC9, 0xFF] "5000 C9 FF    CMP #$FF" ∧
      rendersTo [0xCE, 0x34, 0x12] "5000 CE 34 12 DEC $1234" ∧ rendersTo [0xC8] "5000 C8       INY" := by decide

/-- F1 and V-ALL: the accumulator form prints no operand. -/
theorem test_lines_shift_and_rotate :
    rendersTo [0x0A] "5000 0A       ASL" ∧ rendersTo [0x16, 0x34] "5000 16 34    ASL $34,X" ∧
      rendersTo [0x3E, 0x34, 0x12] "5000 3E 34 12 ROL $1234,X" ∧
      rendersTo [0x46, 0xFF] "5000 46 FF    LSR $FF" := by decide

/-- F6, F12, F13 and V-ALL: jumps and calls carry no annotation, BRK is one byte. -/
theorem test_lines_jump_return_break :
    rendersTo [0x6C, 0x00, 0x02] "5000 6C 00 02 JMP ($0200)" ∧
      rendersTo [0x4C, 0x00, 0x50] "5000 4C 00 50 JMP $5000" ∧
      rendersTo [0x20, 0x34, 0x12] "5000 20 34 12 JSR $1234" ∧ rendersTo [0x00] "5000 00       BRK" ∧
      rendersTo [0x60] "5000 60       RTS" := by decide

/-- S1, S2, B3, B4 and B6: a branch shows its raw displacement and its signed target. -/
theorem test_lines_branch :
    rendersTo [0x90, 0x05] "5000 90 05    BCC $05\t\t; $5007" ∧
      rendersTo [0x90, 0xFB] "5000 90 FB    BCC $FB\t\t; $4FFD" ∧
      rendersTo [0xD0, 0x7F] "5000 D0 7F    BNE $7F\t\t; $5081" ∧
      rendersTo [0xD0, 0x80] "5000 D0 80    BNE $80\t\t; $4F82" ∧
      rendersTo [0x70, 0xFF] "5000 70 FF    BVS $FF\t\t; $5001" := by decide

/-- S3, F2, F10, F11: no operation and raw data bytes. -/
theorem test_lines_flags_and_raw :
    rendersTo [0xEA] "5000 EA       NOP" ∧ rendersTo [0x58] "5000 58       CLI" ∧
      rendersTo [0x02] "5000 02       .byte $02" ∧ rendersTo [0x80] "5000 80       .byte $80" ∧
      rendersTo [0xFF] "5000 FF       .byte $FF" := by decide

/-! ## Addresses and branch targets at the ends of the address space -/

/-- B7 to B13: the target wraps modulo 2^16 and counts from the cursor. -/
theorem test_branch_targets :
    branchTarget 0x5000 16 2 0xEE = 0x5000 ∧ branchTarget 0x0000 0 2 0x80 = 0xFF82 ∧
      branchTarget 0x0000 0 2 0xFD = 0xFFFF ∧ branchTarget 0xFFF0 0 2 0x7F = 0x0071 ∧
      branchTarget 0xFFFE 0 2 0x00 = 0x0000 ∧ branchTarget 0xFFFF 0 2 0x10 = 0x0011 ∧
      branchTarget 0x0100 32 2 0x80 = 0x00A2 := by decide

/-- A2 and A3: the displayed address wraps, the cursor does not. -/
theorem test_displayed_address_wraps :
    afterStep (passFrom 0xFFFF [0xEA, 0xEA] 1) = some (["0000 EA       NOP".toList], 2, .done) ∧
      afterStep (passFrom 0xFFFE [0xAD, 0x34, 0x12, 0xEA] 3) =
        some (["0001 EA       NOP".toList], 4, .done) := by decide

/-! ## Truncation and the pass -/

/-- S5, W4, W5, W8 and W10: the error record, and no line. -/
theorem test_truncation :
    truncatesTo (passAt 0x5000 [0xA9]) ⟨0, 0xA9, 2, 1⟩ ∧ truncatesTo (passAt 0x5000 [0xAD]) ⟨0, 0xAD, 3, 1⟩ ∧
      truncatesTo (passAt 0x5000 [0xAD, 0x00]) ⟨0, 0xAD, 3, 2⟩ ∧
      truncatesTo (passAt 0x5000 [0x90]) ⟨0, 0x90, 2, 1⟩ ∧
      truncatesTo (passFrom 0x5000 [0xEA, 0xEA, 0xBD, 0x00] 2) ⟨2, 0xBD, 3, 2⟩ := by decide

/-- P-5: the line before the truncated instruction stays, the cursor rests on it. -/
theorem test_pass_truncated :
    afterTwo (passAt 0x5000 [0xEA, 0xAD, 0x00]) =
      some (["5000 EA       NOP".toList], 1, .truncated, ⟨1, 0xAD, 3, 2⟩) := by decide

/-- P-6: a raw data byte is one byte, and the next byte is an opcode. -/
theorem test_pass_raw_then_load :
    (afterTwo (passAt 0x5000 [0x80, 0xA9, 0x01])).map (fun r => (r.1, r.2.1, r.2.2.1)) =
      some (["5000 80       .byte $80".toList, "5001 A9 01    LDA #$01".toList], 3, .done) := by decide

/-- P5, first two lines: the displacement is that of the byte after a raw data byte. -/
theorem test_pass_raw_then_branch :
    (afterTwo (passAt 0x0800 [0xA7, 0x10, 0xEB, 0x01, 0xEA])).map (fun r => (r.1, r.2.1, r.2.2.1)) =
      some (["0800 A7       .byte $A7".toList, "0801 10 EB    BPL $EB\t\t; $07EE".toList], 3, .running) := by
  decide

/-- P-1: an empty buffer is `DONE` at once. -/
theorem test_pass_empty : (passAt 0x5000 []).status = .done ∧ (passAt 0x5000 []).out = [] := by decide

/-- A word placed at the cursor is what the first step after reset runs. -/
theorem test_fetch_word_after_reset :
    (afterStep (State.reset.withFetchWord 16 0x01A9)).map (fun r => r.1) =
      some ["5000 A9 01    LDA #$01".toList] := by decide

/-! ## Witnesses: states and operands that meet the hypotheses of each statement -/

/-- Two bytes, LDA #$01. -/
def loadState : State := passAt 0x5000 [0xA9, 0x01]
/-- `loadState` after its one step. -/
def loadedState : State :=
  { loadState with out := ["5000 A9 01    LDA #$01".toList], cur := 2, status := .done }
/-- The load without its operand byte. -/
def cutState : State := passAt 0x5000 [0xA9]
/-- `cutState` after its one step. -/
def cutOffState : State := { cutState with err := ⟨0, 0xA9, 2, 1⟩, status := .truncated }
/-- One byte, NOP, and the state after its one step. -/
def nopState : State := passAt 0x5000 [0xEA]
def nopDoneState : State :=
  { nopState with out := ["5000 EA       NOP".toList], cur := 1, status := .done }
/-- A branch, and the same branch at another cursor and base. -/
def branchState : State := passAt 0x5000 [0xD0, 0x02]
def branchState' : State := passFrom 0x8000 [0xEA, 0xD0, 0x02] 1

/-- The witness for the hypotheses of every row of length 1 (`RendersAs`), of length 2 and 3 (`RendersAs` and
`CutShort`), at the boundary `N = cur + len` and one byte below it: the instruction's own bytes at the
start of a pass, with any operand bytes. -/
theorem witness_rows (bytes : List Byte) (h : bytes ≠ []) :
    (Ready (passAt 0x5000 bytes) ∧ (passAt 0x5000 bytes).cur + bytes.length = (passAt 0x5000 bytes).n ∧
      AtCursor (passAt 0x5000 bytes) bytes) ∧
    (2 ≤ bytes.length →
      Ready (passAt 0x5000 bytes.dropLast) ∧
        (passAt 0x5000 bytes.dropLast).n + 1 = (passAt 0x5000 bytes.dropLast).cur + bytes.length ∧
        (passAt 0x5000 bytes.dropLast).buf.read (passAt 0x5000 bytes.dropLast).cur = bytes.headD 0) := by
  have hwf : Memory.wf ([] : Memory) := by decide
  have hlen : bytes.length ≠ 0 := by simpa using h
  refine ⟨⟨⟨by simp [passAt, startPass, startStatus, h], by simp [passAt, startPass]; omega⟩,
    by simp [passAt, startPass], ?_⟩, ?_⟩
  · intro k hk
    simp only [passAt, startPass, Nat.zero_add]
    rw [Memory.read_load hwf, if_pos (by omega)]
    simp
  · intro h2
    have hd : bytes.dropLast.length = bytes.length - 1 := by simp
    refine ⟨⟨?_, ?_⟩, ?_, ?_⟩
    · simp [passAt, startPass, startStatus]; omega
    · simp [passAt, startPass]; omega
    · simp [passAt, startPass]; omega
    · simp only [passAt, startPass]
      rw [Memory.read_load hwf, if_pos (by omega)]
      match bytes, h2 with
      | b :: c :: rest, _ => rfl

theorem witness_LoadAndStoreRows :
    (Ready loadState ∧ loadState.cur + 2 ≤ loadState.n ∧ AtCursor loadState [0xA9, 0x01]) ∧
      (Ready cutState ∧ cutState.n < cutState.cur + 2 ∧ cutState.buf.read cutState.cur = 0xA9) ∧
      let s := passAt 0x5000 [0x8D, 0x00]
      Ready s ∧ s.n < s.cur + 3 ∧ s.buf.read s.cur = 0x8D := by decide

theorem witness_TransferAndStackRows :
    let s := passAt 0x5000 [0xAA]; Ready s ∧ s.cur + 1 ≤ s.n ∧ AtCursor s [0xAA] := by decide

theorem witness_AccumulatorArithmeticRows :
    (let s := passAt 0x5000 [0x6D, 0x34, 0x12]; Ready s ∧ s.cur + 3 ≤ s.n ∧ AtCursor s [0x6D, 0x34, 0x12]) ∧
      let s := passAt 0x5000 [0x6D, 0x34]; Ready s ∧ s.n < s.cur + 3 ∧ s.buf.read s.cur = 0x6D := by decide

theorem witness_BitCompareAndMemoryCountRows :
    (let s := passAt 0x5000 [0x24, 0x34]; Ready s ∧ s.cur + 2 ≤ s.n ∧ AtCursor s [0x24, 0x34]) ∧
      let s := passAt 0x5000 [0x24]; Ready s ∧ s.n < s.cur + 2 ∧ s.buf.read s.cur = 0x24 := by decide

theorem witness_IndexCountRows :
    let s := passAt 0x5000 [0xE8]; Ready s ∧ s.cur + 1 ≤ s.n ∧ AtCursor s [0xE8] := by decide

theorem witness_ShiftAndRotateRows :
    (let s := passAt 0x5000 [0x1E, 0x34, 0x12]; Ready s ∧ s.cur + 3 ≤ s.n ∧ AtCursor s [0x1E, 0x34, 0x12]) ∧
      (let s := passAt 0x5000 [0x1E]; Ready s ∧ s.n < s.cur + 3 ∧ s.buf.read s.cur = 0x1E) ∧
      let s := passAt 0x5000 [0x0A]; Ready s ∧ s.cur + 1 ≤ s.n ∧ AtCursor s [0x0A] := by decide

theorem witness_JumpReturnAndBreakRows :
    (classify 0x6C).2 = .ind ∧
    (let s := passAt 0x5000 [0x6C, 0xFC, 0xFF]; Ready s ∧ s.cur + 3 ≤ s.n ∧ AtCursor s [0x6C, 0xFC, 0xFF]) ∧
      (let s := passAt 0x5000 [0x6C, 0xFC]; Ready s ∧ s.n < s.cur + 3 ∧ s.buf.read s.cur = 0x6C) ∧
      let s := passAt 0x5000 [0x00]; Ready s ∧ s.cur + 1 ≤ s.n ∧ AtCursor s [0x00] := by decide

theorem witness_BranchRows :
    (Ready branchState ∧ branchState.cur + 2 ≤ branchState.n ∧ AtCursor branchState [0xD0, 0x02]) ∧
      let s := passAt 0x5000 [0xD0]; Ready s ∧ s.n < s.cur + 2 ∧ s.buf.read s.cur = 0xD0 := by decide

theorem witness_FlagAndNoOperationRows :
    Ready nopState ∧ nopState.cur + 1 ≤ nopState.n ∧ AtCursor nopState [0xEA] := by decide

theorem witness_RawDataByteRows :
    ((0x02 : Byte) ∈ undefinedBytes ∧ (0xFF : Byte) ∈ undefinedBytes) ∧
      (let s := passAt 0x5000 [0x02]; Ready s ∧ s.cur + 1 ≤ s.n ∧ AtCursor s [0x02]) ∧
      decode [0x02, 0xEA] = .ok (.raw 0x02, [0xEA]) := by decide

theorem witness_OneAndThreeByteModes : (classify 0x6C).2 = .ind := by decide

theorem witness_TwoByteModes : (classify 0x96).2 = .zpy ∧ (classify 0xB6).2 = .zpy := by decide

theorem witness_DecodeEncodeAgree :
    (Instr.staAbs 0x00 0x20).WellFormed = true ∧ (Instr.raw 0x02).WellFormed = true ∧
      decode [0x8D, 0x00, 0x20, 0xEA] = .ok (.staAbs 0x00 0x20, [0xEA]) ∧
      decode [0x02] = .ok (.raw 0x02, []) := by decide

theorem witness_DecoderIsTotal :
    lenOf 0xAD ≤ [(0x34 : Byte), 0x12].length + 1 ∧ lenOf 0xEA ≤ ([] : List Byte).length + 1 ∧
      [(0x34 : Byte)].length + 1 < lenOf 0xAD ∧ ([] : List Byte).length + 1 < lenOf 0xA9 := by decide

theorem witness_HexSpellingIsFaithful :
    (∃ b c : Byte, hex2 b = hex2 c) ∧ ∃ v w : Addr, hex4 v = hex4 w := ⟨⟨0, 0, rfl⟩, 0, 0, rfl⟩

theorem witness_BranchTargetFormula : (classify 0x90).2 = .rel ∧ (classify 0x70).2 = .rel := by decide

/-- The last offset below 0x10000, and sums at both ends of 0 to 0xFFFF. -/
theorem witness_AddressesExactWithoutWrap :
    (let s := passFrom 0xFFFE [0xD0, 0x00] 1; NoAddrWrap s ∧ s.cur < s.n) ∧
      (let s := passAt 0x007E [0xD0, 0x80]
       NoAddrWrap s ∧ s.cur < s.n ∧ (s.base.toNat : Int) + s.cur + 2 + sext8 0x80 = 0) ∧
      let s := passAt 0xFF7E [0xD0, 0x7F]
      NoAddrWrap s ∧ s.cur < s.n ∧ (s.base.toNat : Int) + s.cur + 2 + sext8 0x7F = 0xFFFF := by decide

theorem witness_LineLayout :
    exec (.ldaImm 0x01) loadState = .next loadedState ∧ loadedState.status ≠ .truncated :=
  ⟨rfl, by decide⟩

theorem witness_TextIsPositionIndependent :
    ∃ t t', exec (.bne 0x02) branchState = .next t ∧ exec (.bne 0x02) branchState' = .next t' ∧
      t.status ≠ .truncated ∧ t'.status ≠ .truncated ∧ branchState.rawMnemonic = branchState'.rawMnemonic ∧
      branchState.cur ≠ branchState'.cur ∧ branchState.base ≠ branchState'.base :=
  ⟨_, _, rfl, rfl, by decide, by decide, rfl, by decide, by decide⟩

theorem witness_EveryInstructionCompletes :
    (Ready loadState ∧ loadState.cur + (Instr.ldaImm 0x01).len = loadState.n) ∧
      Ready cutState ∧ cutState.n + 1 = cutState.cur + (Instr.ldaImm 0x01).len := by decide

theorem witness_InstructionFrame :
    (exec (.ldaImm 0x01) loadState = .next loadedState ∧ loadedState.status ≠ .truncated) ∧
      exec (.ldaImm 0x01) cutState = .next cutOffState ∧ cutOffState.status = .truncated :=
  ⟨⟨rfl, by decide⟩, rfl, rfl⟩

theorem witness_StepRunsTheDecodedInstruction :
    Ready loadState ∧ (Instr.ldaImm 0x01).WellFormed = true ∧
      loadState.cur + (Instr.ldaImm 0x01).len ≤ loadState.n ∧
      AtCursor loadState (encode (.ldaImm 0x01)) := by decide

theorem witness_TruncationExactly :
    (Ready cutState ∧ cutState.n < cutState.cur + lenOf (cutState.buf.read cutState.cur)) ∧
      (Ready loadState ∧ loadState.cur + lenOf (loadState.buf.read loadState.cur) ≤ loadState.n) ∧
      (0x80 : Byte) ∈ undefinedBytes := by decide

theorem witness_EveryByteValueRenders :
    Ready nopState ∧ nopState.cur + lenOf (nopState.buf.read nopState.cur) ≤ nopState.n := by decide

theorem witness_EnabledStepsComplete :
    (Ready loadState ∧ Ready cutState ∧ Ready nopState) ∧
      let s := passAt 0x5000 [0xFF]; Ready s ∧ s.buf.read s.cur ∈ undefinedBytes := by decide

theorem witness_ForwardProgress :
    step loadState = .next loadedState ∧ loadedState.status ≠ .truncated := ⟨rfl, by decide⟩

theorem witness_NoReadPastTheEnd : 1 < loadState.n ∧ loadState.n ≤ 2 := by decide

theorem witness_NothingRunsAfterThePass :
    loadedState.status = .done ∧ cutOffState.status = .truncated := by decide

theorem witness_OutOfContractIsRefused :
    (let s := passFrom 0x5000 [0xEA] 1; s.status = .running ∧ s.n ≤ s.cur) ∧
      ({ nopState with status := .reserved } : State).status = .reserved := by decide

theorem witness_PassStatusRegister :
    (step loadState = .next loadedState ∧ loadedState.status = .done) ∧
      (step cutState = .next cutOffState ∧ cutOffState.status = .truncated) ∧
      ∃ t, step (passAt 0x5000 [0xEA, 0xEA]) = .next t ∧ t.status = .running :=
  ⟨⟨rfl, rfl⟩, ⟨rfl, rfl⟩, _, rfl, rfl⟩

/-- Buffers that differ past the instruction, and buffers of one length that cut it short. -/
theorem witness_DecodeOneIsLocal :
    (let s := passAt 0x5000 [0xA9, 0x01]; let s' := passAt 0x5000 [0xA9, 0x01, 0xEA]
     s.cur = s'.cur ∧ s.base = s'.base ∧ s.rawMnemonic = s'.rawMnemonic ∧ s.cur < s.n ∧ s.cur < s'.n ∧
       (s.buf.read 0 = s'.buf.read 0 ∧ s.buf.read 1 = s'.buf.read 1 ∧ lenOf (s.buf.read s.cur) = 2) ∧
       s.cur + lenOf (s.buf.read s.cur) ≤ s.n ∧ s.cur + lenOf (s.buf.read s.cur) ≤ s'.n ∧ s.n ≠ s'.n) ∧
      let s := passAt 0x5000 [0xA9]; let s' := { passAt 0x5000 [0xA9] with status := .done }
      s.cur = s'.cur ∧ s.base = s'.base ∧ s.rawMnemonic = s'.rawMnemonic ∧ s.cur < s.n ∧ s.cur < s'.n ∧
        s.buf = s'.buf ∧ s.n = s'.n := by decide

theorem witness_CursorFollowsBytesAlone :
    let s' := { passAt 0x0000 [0xA9, 0x01] with out := ["".toList] }
    loadState.buf = s'.buf ∧ loadState.n = s'.n ∧ loadState.cur = s'.cur ∧ loadState.status = s'.status ∧
      loadState.base ≠ s'.base ∧ step loadState = .next loadedState ∧ loadedState.status ≠ .truncated :=
  ⟨rfl, rfl, rfl, rfl, by decide, rfl, by decide⟩

theorem witness_ErrIsNeverRead :
    (step loadState = .next loadedState ∧ loadedState.status ≠ .truncated) ∧
      step cutState = .next cutOffState ∧ cutOffState.status = .truncated :=
  ⟨⟨rfl, by decide⟩, rfl, rfl⟩

theorem witness_PassStartState :
    0 < [(0xEA : Byte)].length ∧ 0 < (passAt 0x5000 [0xEA]).n ∧ (passAt 0x5000 []).n = 0 := by decide

theorem witness_StepKeepsInvariant :
    (Inv loadState ∧ step loadState = .next loadedState) ∧ Inv cutState ∧ step cutState = .next cutOffState :=
  ⟨⟨by decide, rfl⟩, by decide, rfl⟩

/-- In the middle of a pass, with one line already produced. -/
theorem witness_StepKeepsListing :
    let s := { passAt 0x5000 [0xEA, 0xEA] with out := ["5000 EA       NOP".toList], cur := 1 }
    Listing s ∧ ∃ t, step s = .next t := ⟨rfl, _, rfl⟩

theorem witness_LinesArePlainAscii :
    PlainAscii loadState.rawMnemonic ∧ (∀ line ∈ loadState.out, PlainAscii line) ∧
      step loadState = .next loadedState := by
  refine ⟨fun c hc => ?_, by decide, rfl⟩
  have h : c ∈ ['.', 'b', 'y', 't', 'e'] := hc
  simp only [List.mem_cons, List.not_mem_nil, or_false] at h
  rcases h with rfl | rfl | rfl | rfl | rfl <;> decide

theorem witness_BufferNeverChanges :
    Host.Core.run core 1 loadState = .next loadedState ∧ Host.Core.run core 1 cutState = .next cutOffState :=
  ⟨rfl, rfl⟩

theorem witness_PassEndsFromAnyState : Inv loadState ∧ loadState.status = .running := by decide

theorem witness_SameListingSameBinary :
    Host.Core.run core 1 (startPass [0xEA] 0x5000 ".byte".toList ErrRecord.reset) = .next nopDoneState ∧
      nopDoneState.status = .done ∧ nopDoneState.out = nopDoneState.out := ⟨rfl, rfl, rfl⟩

theorem witness_RerunGivesTheSameResult :
    Host.Core.run core 1 (startPass [0xEA] 0x5000 ".byte".toList ErrRecord.reset) = .next nopDoneState ∧
      Host.Core.run core 1 (startPass [0xA9] 0x5000 ".byte".toList ErrRecord.reset) = .next cutOffState ∧
      cutOffState.status = .truncated := ⟨rfl, rfl, rfl⟩

/-- A cursor of two bits holds the two-byte buffer's end. -/
theorem witness_CursorFitsItsWidth :
    Inv loadState ∧ FitsCursor 2 loadState ∧ step loadState = .next loadedState := ⟨by decide, by decide, rfl⟩

theorem witness_FetchWordRunsNext :
    Memory.wf State.reset.buf ∧ Memory.wf loadState.buf ∧
      decodeTableWord 16 0x01A9 = some (.ldaImm 0x01) ∧ decodeTableWord 8 0x02 = some (.raw 0x02) ∧
      decodeTableWord 24 0x20008D = some (.staAbs 0x00 0x20) := by decide

end Sys2Proof.Tests
end

section
/-! SUPPORT. The hexadecimal spelling (R11): the digits, and that a spelling has one value. -/

namespace Sys2Proof.Machine

/-- The digit of `v` is the `v`-th of `0-9`, `A-F` (R11, D7). -/
theorem hexDigits_getElem? (v : BitVec 4) : "0123456789ABCDEF".toList[v.toNat]? = some (hexDigit v) := by
  revert v
  decide

/-- The digits are `0-9` and `A-F`, and no other character is one. -/
theorem mem_hexDigits_iff (d : Char) : d ∈ "0123456789ABCDEF".toList ↔ ∃ v : BitVec 4, hexDigit v = d := by
  constructor
  · intro hd
    obtain ⟨k, hk, rfl⟩ := List.mem_iff_getElem.1 hd
    have hk' : k < 2 ^ 4 := hk
    have hv := hexDigits_getElem? (BitVec.ofNatLT k hk')
    rw [BitVec.toNat_ofNatLT, List.getElem?_eq_getElem hk] at hv
    exact ⟨_, (Option.some.inj hv).symm⟩
  · rintro ⟨v, rfl⟩
    exact List.mem_of_getElem? (hexDigits_getElem? v)

/-- No two values share a digit. -/
theorem hexDigit_injective : Function.Injective hexDigit := by
  unfold Function.Injective
  decide

/-- A byte is its high nibble and its low nibble. -/
theorem byte_eq_append (b : Byte) : b = b.extractLsb' 4 4 ++ b.extractLsb' 0 4 := by
  rw [BitVec.extractLsb'_append_extractLsb'_eq_extractLsb' (by rfl)]
  exact BitVec.extractLsb'_eq_self.symm

/-- An address is its high byte and its low byte. -/
theorem addr_eq_append (v : Addr) : v = v.extractLsb' 8 8 ++ v.extractLsb' 0 8 := by
  rw [BitVec.extractLsb'_append_extractLsb'_eq_extractLsb' (by rfl)]
  exact BitVec.extractLsb'_eq_self.symm

/-- A byte's spelling has one value. -/
theorem hex2_injective : Function.Injective hex2 := by
  intro b c h
  simp only [hex2, List.cons.injEq] at h
  obtain ⟨hhi, hlo, -⟩ := h
  rw [byte_eq_append b, byte_eq_append c, hexDigit_injective hhi, hexDigit_injective hlo]

/-- An address's spelling has one value. -/
theorem hex4_injective : Function.Injective hex4 := by
  intro v w h
  obtain ⟨hhi, hlo⟩ := List.append_inj h rfl
  rw [addr_eq_append v, addr_eq_append w, hex2_injective hhi, hex2_injective hlo]

end Sys2Proof.Machine
end

section
/-! SUPPORT. Every piece of a line is plain ASCII (R27), where `RAW_MNEMONIC` is. -/

namespace Sys2Proof.Safety

open Sys2Proof.Machine

/-- A fixed text is checked character by character. -/
theorem PlainAscii.of_all {t : Text} (h : t.all fun c => c.toNat < 0x80 ∧ c ≠ '\n' ∧ c ≠ '\r') :
    PlainAscii t := by
  simpa using h

theorem PlainAscii.append {t u : Text} (ht : PlainAscii t) (hu : PlainAscii u) : PlainAscii (t ++ u) :=
  List.forall_mem_append.2 ⟨ht, hu⟩

theorem plainAscii_hexDigit (d : BitVec 4) :
    (hexDigit d).toNat < 0x80 ∧ hexDigit d ≠ '\n' ∧ hexDigit d ≠ '\r' := by
  revert d
  decide

theorem plainAscii_hex2 (b : Byte) : PlainAscii (hex2 b) := by
  simp only [PlainAscii, hex2, List.forall_mem_cons]
  exact ⟨plainAscii_hexDigit _, plainAscii_hexDigit _, List.forall_mem_nil _⟩

theorem plainAscii_hex4 (v : Addr) : PlainAscii (hex4 v) :=
  (plainAscii_hex2 _).append (plainAscii_hex2 _)

theorem plainAscii_hexOperand (b : Option Byte) : PlainAscii (hexOperand b) := by
  cases b with
  | none => exact .of_all rfl
  | some b => exact plainAscii_hex2 b

theorem plainAscii_byteSlot (b : Option Byte) : PlainAscii (byteSlot b) := by
  cases b with
  | none => exact .of_all rfl
  | some b => exact plainAscii_hex2 b

/-- The mnemonics are capital letters (R80); the raw data byte's is `RAW_MNEMONIC` (R78). -/
theorem plainAscii_mnemonicText {raw : Text} (hraw : PlainAscii raw) (mn : Mnemonic) :
    PlainAscii (mnemonicText raw mn) := by
  cases mn with
  | raw => exact hraw
  | _ => exact .of_all rfl

/-- An operand text is digits of the operand bytes between fixed marks (R65 to R78). -/
theorem plainAscii_opText (mode : Mode) (op : Byte) (b1 b2 : Option Byte) :
    PlainAscii (opText mode op b1 b2) := by
  have h1 := plainAscii_hexOperand b1
  have h2 := plainAscii_hexOperand b2
  cases mode with
  | imp | acc => exact .of_all rfl
  | raw => exact .append (.of_all rfl) (plainAscii_hex2 op)
  | imm | zp | rel => exact .append (.of_all rfl) h1
  | zpx | zpy | izx | izy => exact .append (.append (.of_all rfl) h1) (.of_all rfl)
  | abs => exact .append (.append (.of_all rfl) h2) h1
  | abx | aby | ind => exact .append (.append (.append (.of_all rfl) h2) h1) (.of_all rfl)

theorem plainAscii_asmText {mn opnd : Text} (hmn : PlainAscii mn) (hopnd : PlainAscii opnd) :
    PlainAscii (asmText mn opnd) := by
  unfold asmText
  split
  · exact hmn
  · exact (hmn.append (.of_all rfl)).append hopnd

theorem plainAscii_annotation (base : Addr) (cur : Nat) (mode : Mode) (b1 : Option Byte) :
    PlainAscii (annotation base cur mode b1) := by
  unfold annotation
  split
  · exact .append (.of_all rfl) (plainAscii_hex4 _)
  · exact .of_all rfl

/-- A line is, where `RAW_MNEMONIC` is (R27, R106 to R111). -/
theorem plainAscii_formatLine {raw : Text} (hraw : PlainAscii raw) (base : Addr) (cur : Nat) (mn : Mnemonic)
    (mode : Mode) (op : Byte) (b1 b2 : Option Byte) :
    PlainAscii (formatLine base raw cur mn mode op b1 b2) := by
  have hsep : PlainAscii [' '] := .of_all rfl
  have haddr := (plainAscii_hex4 (dispAddr base cur)).append hsep
  have hslots := (((((haddr.append (plainAscii_hex2 op)).append hsep).append
    (plainAscii_byteSlot b1)).append hsep).append (plainAscii_byteSlot b2)).append hsep
  have hasm := plainAscii_asmText (plainAscii_mnemonicText hraw mn) (plainAscii_opText mode op b1 b2)
  exact (hslots.append hasm).append (plainAscii_annotation base cur mode b1)

end Sys2Proof.Safety
end

section
/-! SUPPORT. The statements of 00_scope.md, settled. -/

namespace Sys2Proof.Scope

open Sys2Proof.Machine Sys2Proof.Safety

/-- Settles O18: a digit is read off the digit string, a byte and an address are put together of their halves,
and a spelling is injective because its digits are. -/
theorem hexSpellingIsFaithful : Obligations.HexSpellingIsFaithful :=
  ⟨mem_hexDigits_iff, hexDigits_getElem?, fun b => ⟨_, _, byte_eq_append b, rfl⟩,
    fun v => ⟨_, _, addr_eq_append v, rfl⟩, fun _ _ h => hex2_injective h, fun _ _ h => hex4_injective h⟩

/-- Settles O46: a step that goes on leaves the output as it is or appends one `formatLine`. -/
theorem linesArePlainAscii : Obligations.LinesArePlainAscii := by
  intro s t hraw hout h
  obtain ⟨-, -, ⟨-, rfl⟩ | ⟨-, i, -, -, -, rfl⟩⟩ := step_next h
  · exact ⟨hraw, hout⟩
  · have hline := plainAscii_formatLine hraw s.base s.cur i.mnemonic i.mode (s.buf.read s.cur)
      (encode i)[1]? (encode i)[2]?
    refine ⟨hraw, ?_⟩
    rw [advance_out, emit_out]
    exact List.forall_mem_append.2 ⟨hout, List.forall_mem_singleton.2 hline⟩

/-- Settles O41: the fields of the two states agree, and in a state without bytes that is `DONE` at 0 the invariant
is a check of closed facts. -/
theorem resetIsThePassOverNothing : Obligations.ResetIsThePassOverNothing := by
  have hreset : State.reset = startPass [] 0x5000 ".byte".toList State.reset.err := rfl
  have hinv : Inv State.reset := by decide
  exact ⟨hreset, hinv⟩

end Sys2Proof.Scope
end

section
/-! SUPPORT. `decodeOne` (R113) where the instruction at the cursor fits the buffer and where it is cut short, and
the step as the pass step over it (R120): the step's one text and length are `decodeOne`'s. -/

namespace Sys2Proof.Machine

open Sys2Proof.Laws

/-! ## Enabling -/

theorem whenEnabled_cursorOutside {s : State} (hr : s.status = .running) (hc : s.n ≤ s.cur) (k : Result) :
    whenEnabled s k = .refused .cursorOutsideBuffer := by
  simp [whenEnabled, hr, Nat.not_lt.2 hc]

theorem whenEnabled_reserved {s : State} (hr : s.status = .reserved) (k : Result) :
    whenEnabled s k = .refused .reservedStatus := by
  simp [whenEnabled, hr]

/-- The continuation matters only where a step is enabled. -/
theorem whenEnabled_congr {s : State} {k k' : Result} (h : s.status = .running → s.cur < s.n → k = k') :
    whenEnabled s k = whenEnabled s k' := by
  unfold whenEnabled
  split
  · next hr =>
    split
    · next hc => exact h hr hc
    · rfl
  all_goals rfl

/-! ## One decode -/

theorem memRead_congr {s t : State} (hbuf : t.buf = s.buf) (hn : t.n = s.n) (a : Nat) :
    memRead t a = memRead s a := by
  rw [memRead, memRead, hbuf, hn]

/-- `decodeOne` reads `BUF`, `N`, `BASE`, `RAW_MNEMONIC` and the cursor, and no other field (R113). -/
theorem decodeOne_congr {s t : State} (hbuf : t.buf = s.buf) (hn : t.n = s.n) (hbase : t.base = s.base)
    (hraw : t.rawMnemonic = s.rawMnemonic) (hcur : t.cur = s.cur) : decodeOne t = decodeOne s := by
  cases s
  cases t
  cases hbuf
  cases hn
  cases hbase
  cases hraw
  cases hcur
  rfl

/-- An operand read inside the buffer gives the byte, and a read that is not needed none. -/
theorem readIf_of_lt {needed : Bool} {s : State} {a : Nat} (h : needed = true → a < s.n) :
    readIf needed s a = .ok (if needed then some (s.buf.read a) else none) := by
  cases needed with
  | false => rfl
  | true => simp only [readIf, if_true, memRead_of_lt (h rfl)]

theorem decodeOne_cursorOutside {s : State} (hc : s.n ≤ s.cur) : decodeOne s = .refused .cursorOutsideBuffer :=
  if_pos hc

/-- Decoding an instruction that reaches past the buffer raises `TruncatedInstruction` (R104). -/
theorem decodeOne_of_cut {s : State} (hc : s.cur < s.n) (hf : s.n < s.cur + lenOf (s.buf.read s.cur)) :
    decodeOne s = .next (.truncated (raiseTruncated (s.buf.read s.cur) (lenOf (s.buf.read s.cur)) s).err) := by
  have hpast : s.cur + (classify (s.buf.read s.cur)).2.len > s.n := hf
  simp only [decodeOne, if_neg (Nat.not_le.2 hc), memRead_of_lt hc, if_pos hpast]
  rfl

/-- Decoding an instruction inside the buffer gives the line of the instruction its bytes encode. -/
theorem decodeOne_of_fits {s : State} {i : Instr} (hc : s.cur < s.n)
    (hf : s.cur + lenOf (s.buf.read s.cur) ≤ s.n)
    (he : encode i = bytesFrom s.buf s.cur (lenOf (s.buf.read s.cur)))
    (hm : (i.mnemonic, i.mode) = classify (s.buf.read s.cur)) :
    decodeOne s = .next (.line (formatLine s.base s.rawMnemonic s.cur i.mnemonic i.mode (s.buf.read s.cur)
      (encode i)[1]? (encode i)[2]?) i.len) := by
  have hlen : lenOf (s.buf.read s.cur) = i.mode.len := by rw [lenOf, ← hm]
  rw [hlen] at hf he
  have hb1 : readIf (decide (2 ≤ i.mode.len)) s (s.cur + 1) = .ok (encode i)[1]? := by
    rw [readIf_of_lt fun h => by have := of_decide_eq_true h; omega, he]
    rcases mode_len_cases i.mode with hl | hl | hl <;> rw [hl] <;> rfl
  have hb2 : readIf (decide (i.mode.len = 3)) s (s.cur + 2) = .ok (encode i)[2]? := by
    rw [readIf_of_lt fun h => by have := of_decide_eq_true h; omega, he]
    rcases mode_len_cases i.mode with hl | hl | hl <;> rw [hl] <;> rfl
  simp only [decodeOne, if_neg (Nat.not_le.2 hc), memRead_of_lt hc, ← hm, if_neg (Nat.not_lt.2 hf), hb1, hb2]
  rfl

/-! ## The step over `decodeOne` -/

/-- The step is the pass step of the spec's pseudocode (R120). -/
theorem step_eq_passStep (s : State) : step s = passStep s := by
  by_cases hready : s.status = .running ∧ s.cur < s.n
  · obtain ⟨hr, hc⟩ := hready
    rw [passStep, whenEnabled_ready hr hc]
    by_cases hf : s.cur + lenOf (s.buf.read s.cur) ≤ s.n
    · obtain ⟨i, he, -, hm, hs⟩ := step_of_fits hr hc hf
      have hlen : i.mode.len = lenOf (s.buf.read s.cur) := by rw [lenOf, ← hm]
      have hop : (encode i).headD 0 = s.buf.read s.cur := by
        rw [he]
        rcases lenOf_cases (s.buf.read s.cur) with hl | hl | hl <;> rw [hl] <;> rfl
      rw [hs, exec_eq_decodeStep, decodeStep_of_fits hr hc (hlen ▸ hf), hop, decodeOne_of_fits hc hf he hm]
      rfl
    · rw [step_of_cut hr hc (by omega), decodeOne_of_cut hc (by omega)]
      rfl
  · exact whenEnabled_congr fun hr hc => absurd ⟨hr, hc⟩ hready

/-- A step that decodes a line appends it and moves the cursor past its bytes. -/
theorem step_of_line {s : State} {text : Text} {len : Nat} (hr : s.status = .running) (hc : s.cur < s.n)
    (hd : decodeOne s = .next (.line text len)) : step s = .next (advance len (emit text s)) := by
  rw [step_eq_passStep, passStep, whenEnabled_ready hr hc, hd]

/-- A step whose decode raises `TruncatedInstruction` writes the error record and the status. -/
theorem step_of_truncated {s : State} {info : ErrRecord} (hr : s.status = .running) (hc : s.cur < s.n)
    (hd : decodeOne s = .next (.truncated info)) : step s = .next { s with err := info, status := .truncated } := by
  rw [step_eq_passStep, passStep, whenEnabled_ready hr hc, hd]

/-- No step changes what the host supplied (R21, R24, R52). -/
theorem step_frame {s t : State} (h : step s = .next t) :
    t.buf = s.buf ∧ t.n = s.n ∧ t.base = s.base ∧ t.rawMnemonic = s.rawMnemonic := by
  obtain ⟨-, -, ⟨-, rfl⟩ | ⟨-, i, -, -, -, rfl⟩⟩ := step_next h <;> exact ⟨rfl, rfl, rfl, rfl⟩

/-- Everything a step that answers a next state can do, by what `decodeOne` gives. -/
theorem step_next_decodeOne {s t : State} (h : step s = .next t) :
    s.status = .running ∧ s.cur < s.n ∧
      ((∃ text len, decodeOne s = .next (.line text len) ∧ t = advance len (emit text s)) ∨
        ∃ info, decodeOne s = .next (.truncated info) ∧ t = { s with err := info, status := .truncated }) := by
  rw [step_eq_passStep] at h
  obtain ⟨hr, hc, hk⟩ := whenEnabled_next h
  refine ⟨hr, hc, ?_⟩
  split at hk
  · next text len hd => exact .inl ⟨text, len, hd, (Host.Outcome.next.inj hk).symm⟩
  · next info hd => exact .inr ⟨info, hd, (Host.Outcome.next.inj hk).symm⟩
  all_goals exact nomatch hk

end Sys2Proof.Machine
end

section
/-! SUPPORT. The registers a step writes: the pass status after the cursor has moved (R25, R120), and the length in
the error record (R26). -/

namespace Sys2Proof.Machine

/-- A running pass is `DONE` exactly at `N`. -/
@[simp] theorem statusAt_running_eq_done {cur n : Nat} : statusAt cur n .running = .done ↔ cur = n := by
  simp [statusAt]

/-- A running pass stays `RUNNING` elsewhere. -/
@[simp] theorem statusAt_running_eq_running {cur n : Nat} : statusAt cur n .running = .running ↔ cur ≠ n := by
  simp [statusAt]

@[simp] theorem statusAt_running_ne_truncated (cur n : Nat) : statusAt cur n .running ≠ .truncated := by
  unfold statusAt
  split <;> decide

@[simp] theorem statusAt_running_ne_reserved (cur n : Nat) : statusAt cur n .running ≠ .reserved := by
  unfold statusAt
  split <;> decide

/-- A pass starts as if its cursor had just moved to 0 (R33). -/
theorem startStatus_eq_statusAt (n : Nat) : startStatus n = statusAt 0 n .running := by
  simp [startStatus, statusAt, eq_comm]

/-- The two bits of `err.need` hold every length (R26). -/
@[simp] theorem toNat_ofNat_lenOf (op : Byte) : (BitVec.ofNat 2 (lenOf op)).toNat = lenOf op := by
  rcases Laws.lenOf_cases op with hl | hl | hl <;> rw [hl] <;> rfl

end Sys2Proof.Machine
end

section
/-! SUPPORT. The invariant of a pass: at its start, after a line, and after the truncated-instruction error. -/

namespace Sys2Proof.Safety

open Sys2Proof.Machine

/-- A cursor moved within the buffer of a running pass agrees with the status (R22, R25, R120). -/
theorem cursorWf_of_statusAt {s : State} (hc : s.cur ≤ s.n) (hs : s.status = statusAt s.cur s.n .running) :
    CursorWf s := by
  refine ⟨hc, fun hr => ?_, fun hd => ?_, ?_⟩
  · rw [hs, statusAt_running_eq_running] at hr
    omega
  · rwa [hs, statusAt_running_eq_done] at hd
  · rw [hs]
    exact statusAt_running_ne_reserved _ _

/-- Where the pass is not `TRUNCATED`, nothing is claimed of `err` (R26). -/
theorem errWf_of_statusAt {s : State} (hs : s.status = statusAt s.cur s.n .running) : ErrWf s :=
  fun ht => absurd (hs ▸ ht) (statusAt_running_ne_truncated _ _)

theorem inv_startPass (bytes : List Byte) (base : Addr) (raw : Text) (err : ErrRecord) :
    Inv (startPass bytes base raw err) := by
  have hs := startStatus_eq_statusAt bytes.length
  have hnil : Memory.wf [] := ⟨.nil, List.forall_mem_nil _⟩
  have hbuf : BufWf (startPass bytes base raw err) :=
    ⟨Memory.wf_load hnil 0 bytes, Memory.load_within (List.forall_mem_nil _) (Nat.zero_add _).le⟩
  exact ⟨hbuf, cursorWf_of_statusAt (Nat.zero_le _) hs, errWf_of_statusAt hs⟩

/-- A line that ends within the buffer of a running pass leaves the invariant. -/
theorem inv_advance_emit {s : State} {len : Nat} (hbuf : BufWf s) (hr : s.status = .running)
    (hf : s.cur + len ≤ s.n) (line : Text) : Inv (advance len (emit line s)) := by
  have hs : (advance len (emit line s)).status = statusAt (s.cur + len) s.n .running := by simp [hr]
  exact ⟨hbuf, cursorWf_of_statusAt hf hs, errWf_of_statusAt hs⟩

/-- The truncated-instruction error leaves the invariant: the record describes the opcode at the cursor. -/
theorem inv_raiseTruncated {s : State} (hbuf : BufWf s) (hc : s.cur < s.n)
    (hf : s.n < s.cur + lenOf (s.buf.read s.cur)) :
    Inv (raiseTruncated (s.buf.read s.cur) (lenOf (s.buf.read s.cur)) s) := by
  have hneed := toNat_ofNat_lenOf (s.buf.read s.cur)
  have hcur : CursorWf (raiseTruncated (s.buf.read s.cur) (lenOf (s.buf.read s.cur)) s) :=
    ⟨hc.le, nofun, nofun, nofun⟩
  have herr : ErrWf (raiseTruncated (s.buf.read s.cur) (lenOf (s.buf.read s.cur)) s) :=
    fun _ => ⟨hc, rfl, rfl, hneed, rfl, by simp; omega⟩
  exact ⟨hbuf, hcur, herr⟩

/-- Every step keeps the invariant: it appends a line within the buffer or takes the error. -/
theorem inv_step {s t : State} (hinv : Inv s) (h : step s = .next t) : Inv t := by
  obtain ⟨hbuf, -, -⟩ := hinv
  obtain ⟨hr, hc, ⟨hf, rfl⟩ | ⟨hf, i, -, -, hlen, rfl⟩⟩ := step_next h
  · exact inv_raiseTruncated hbuf hc hf
  · exact inv_advance_emit hbuf hr (hlen ▸ hf) _

end Sys2Proof.Safety
end

section
/-! SUPPORT. The listing of a pass (R27): what `sweep` reads, and one more line at its end. -/

namespace Sys2Proof.Safety

open Sys2Proof.Machine

/-- The lines are fixed by `BUF`, `N`, `BASE` and `RAW_MNEMONIC`. -/
theorem sweep_congr {s t : State} (hbuf : t.buf = s.buf) (hn : t.n = s.n) (hbase : t.base = s.base)
    (hraw : t.rawMnemonic = s.rawMnemonic) (k c : Nat) : sweep t k c = sweep s k c := by
  induction k generalizing c with
  | zero => rfl
  | succ k ih =>
    have hd : decodeOne { t with cur := c } = decodeOne { s with cur := c } :=
      decodeOne_congr hbuf hn hbase hraw rfl
    simp only [sweep, hd, ih]

/-- A sweep of `k + 1` lines is one line and a sweep from its end. -/
theorem sweep_succ_eq_some {s : State} {k c e : Nat} {lines : List Text} :
    sweep s (k + 1) c = some (lines, e) ↔
      ∃ text len rest, decodeOne { s with cur := c } = .next (.line text len) ∧
        sweep s k (c + len) = some (rest, e) ∧ lines = text :: rest := by
  constructor
  · intro h
    rw [sweep] at h
    split at h
    · next text len hd =>
      split at h
      · next rest e' hrest =>
        obtain ⟨rfl, rfl⟩ := Prod.mk.inj (Option.some.inj h)
        exact ⟨text, len, rest, hd, hrest, rfl⟩
      · exact nomatch h
    · exact nomatch h
  · rintro ⟨text, len, rest, hd, hrest, rfl⟩
    simp only [sweep, hd, hrest]

/-- A line decoded where a sweep ended is the sweep's next line. -/
theorem sweep_append_line {s : State} {k c e len : Nat} {lines : List Text} {text : Text}
    (h : sweep s k c = some (lines, e)) (hd : decodeOne { s with cur := e } = .next (.line text len)) :
    sweep s (k + 1) c = some (lines ++ [text], e + len) := by
  induction k generalizing c lines with
  | zero =>
    obtain ⟨rfl, rfl⟩ := Prod.mk.inj (Option.some.inj h)
    exact sweep_succ_eq_some.2 ⟨text, len, [], hd, rfl, rfl⟩
  | succ k ih =>
    obtain ⟨first, firstLen, rest, hfirst, hrest, rfl⟩ := sweep_succ_eq_some.1 h
    exact sweep_succ_eq_some.2 ⟨first, firstLen, rest ++ [text], hfirst, ih hrest, rfl⟩

/-- Every step keeps the output the listing of the buffer up to the cursor: its line starts where the listing
ended, and the truncated-instruction error adds none. -/
theorem listing_step {s t : State} (hlist : Listing s) (h : step s = .next t) : Listing t := by
  obtain ⟨hbuf, hn, hbase, hraw⟩ := step_frame h
  rw [Listing, sweep_congr hbuf hn hbase hraw]
  obtain ⟨-, -, ⟨text, len, hd, rfl⟩ | ⟨info, -, rfl⟩⟩ := step_next_decodeOne h
  · simpa using sweep_append_line hlist hd
  · exact hlist

end Sys2Proof.Safety
end

section
/-! SUPPORT. The statements of 10_state.md, settled. -/

namespace Sys2Proof.PassState

open Sys2Proof.Machine Sys2Proof.Safety

/-- Settles O44, by `inv_step`. -/
theorem stepKeepsInvariant : Obligations.StepKeepsInvariant := fun _ _ => inv_step

/-- Settles O45: a pass starts with no line, and every step keeps the listing. -/
theorem stepKeepsListing : Obligations.StepKeepsListing := ⟨fun _ _ _ _ => rfl, fun _ _ => listing_step⟩

/-- Settles O25: every meaning is a decode step, which takes the error or appends one line. -/
theorem instructionFrame : Obligations.InstructionFrame := by
  intro i s t h
  rw [exec_eq_decodeStep] at h
  obtain ⟨hr, -, ⟨-, rfl⟩ | ⟨-, rfl⟩⟩ := decodeStep_next h
  · exact ⟨rfl, memRead_congr rfl rfl, rfl, rfl, rfl, .inr ⟨rfl, rfl, rfl⟩⟩
  · have hstatus : statusAt (s.cur + i.mode.len) s.n s.status ≠ .truncated := by simp [hr]
    exact ⟨rfl, memRead_congr rfl rfl, rfl, rfl, rfl, .inl ⟨hstatus, rfl, rfl, _, rfl⟩⟩

/-- Settles O35: the codes and the start by evaluation; a step ends in `TRUNCATED` below `N`, or with the status that
its cursor fixes. -/
theorem passStatusRegister : Obligations.PassStatusRegister := by
  refine ⟨⟨rfl, rfl, rfl, rfl, by decide⟩, fun _ _ _ _ => rfl, fun s t h => ?_⟩
  obtain ⟨hr, hc, ⟨hf, rfl⟩ | ⟨hf, i, -, -, hlen, rfl⟩⟩ := step_next h
  · simp [hr, hf, hc.ne]
  · have hle : s.cur + i.len ≤ s.n := hlen ▸ hf
    rw [advance_status, emit_cur, emit_n, emit_status, hr]
    exact ⟨rfl, statusAt_running_ne_reserved _ _, statusAt_running_eq_done,
      fun ht => hle.lt_of_ne (statusAt_running_eq_running.1 ht),
      fun ht => absurd ht (statusAt_running_ne_truncated _ _)⟩

/-- Settles O38: `decodeOne` does not read `err`, and the step is made of it. -/
theorem errIsNeverRead : Obligations.ErrIsNeverRead := by
  intro s t e h
  have herr : decodeOne { s with err := e } = decodeOne s := decodeOne_congr rfl rfl rfl rfl rfl
  obtain ⟨hr, hc, ⟨text, len, hd, rfl⟩ | ⟨info, hd, rfl⟩⟩ := step_next_decodeOne h
  · have hstatus : (advance len (emit text s)).status ≠ .truncated := by simp [hr]
    rw [if_neg hstatus]
    exact step_of_line hr hc (herr.trans hd)
  · exact step_of_truncated hr hc (herr.trans hd)

/-- Settles O52: the invariant bounds the cursor by `N`, which no step changes. -/
theorem cursorFitsItsWidth : Obligations.CursorFitsItsWidth := by
  intro width s t hinv hfits h
  obtain ⟨-, hn, -, -⟩ := step_frame h
  obtain ⟨-, ⟨hcur, -⟩, -⟩ := inv_step hinv h
  have hfits' : FitsCursor width t := hn.trans_lt hfits
  exact ⟨hfits', hcur.trans_lt hfits'⟩

/-- Settles O34: none of the three is enabled, whatever would follow. -/
theorem outOfContractIsRefused : Obligations.OutOfContractIsRefused := by
  intro i s
  rw [exec_eq_decodeStep]
  exact ⟨decodeOne_cursorOutside,
    fun hr hc => ⟨whenEnabled_cursorOutside hr hc _, whenEnabled_cursorOutside hr hc _⟩,
    fun hr => ⟨whenEnabled_reserved hr _, whenEnabled_reserved hr _⟩⟩

/-- Settles O40: with no bytes the pass starts `DONE`, and every offset is at or past `N`. -/
theorem emptyBufferIsDoneAtOnce : Obligations.EmptyBufferIsDoneAtOnce :=
  fun _ _ _ => ⟨rfl, rfl, rfl, fun a => memRead_of_ge (Nat.zero_le a)⟩

/-- Settles O43, by `inv_startPass`. -/
theorem passStartMeetsInvariant : Obligations.PassStartMeetsInvariant := inv_startPass

end Sys2Proof.PassState
end

section
/-! SUPPORT. The 16-bit numbers of a line: the two-byte operand (R44), the displayed address (R45) and the branch
target (R110) as numbers, and where the byte slots stand (R106). -/

namespace Sys2Proof.Machine

/-! ## The two-byte operand -/

theorem toNat_operand16 (b2 b1 : Byte) : (operand16 b2 b1).toNat = b2.toNat * 256 + b1.toNat := by
  have h2 := b2.isLt
  have h1 := b1.isLt
  rw [operand16, BitVec.toNat_ofNat]
  omega

/-- The second operand byte is the high byte (R44). -/
theorem operand16_eq_append (b2 b1 : Byte) : operand16 b2 b1 = b2 ++ b1 := by
  apply BitVec.eq_of_toNat_eq
  rw [toNat_operand16, BitVec.toNat_append, ← Nat.shiftLeft_add_eq_or_of_lt b1.isLt, Nat.shiftLeft_eq]

theorem hex4_append (hi lo : Byte) : hex4 (hi ++ lo) = hex2 hi ++ hex2 lo := by
  rw [hex4, BitVec.extractLsb'_append_eq_left, BitVec.extractLsb'_append_eq_right]

/-- A two-byte operand is spelled high byte first. -/
theorem hex4_operand16 (b2 b1 : Byte) : hex4 (operand16 b2 b1) = hex2 b2 ++ hex2 b1 := by
  rw [operand16_eq_append, hex4_append]

/-! ## Addresses -/

/-- A displayed address is exact where the sum is an address (R45, D4). -/
theorem toNat_dispAddr_of_lt {base : Addr} {c : Nat} (h : base.toNat + c < 2 ^ 16) :
    (dispAddr base c).toNat = base.toNat + c := by
  rw [dispAddr, BitVec.toNat_ofNat, Nat.mod_eq_of_lt h]

/-- The branch target is the integer sum reduced modulo 2^16 (R110, D5). -/
theorem toNat_branchTarget (base : Addr) (cur len : Nat) (b1 : Byte) :
    ((branchTarget base cur len b1).toNat : Int) = ((base.toNat : Int) + cur + len + sext8 b1) % 2 ^ 16 := by
  rw [branchTarget, BitVec.toNat_ofInt]
  exact Int.toNat_of_nonneg (Int.emod_nonneg _ (by decide))

/-! ## The byte slots -/

/-- Five characters into a line stand the opcode's digits and the operand bytes', in buffer order (R106). -/
theorem byteSlots_formatLine (base : Addr) (raw : Text) (cur : Nat) (mn : Mnemonic) (mode : Mode)
    (op b1 b2 : Byte) :
    ((formatLine base raw cur mn mode op (some b1) (some b2)).drop 5).take 8 =
      hex2 op ++ [' '] ++ hex2 b1 ++ [' '] ++ hex2 b2 := rfl

end Sys2Proof.Machine
end

section
/-! SUPPORT. How a step can end (R120, R121): an enabled step has a next state, and a fault comes only after the
pass. -/

namespace Sys2Proof.Machine

/-- An enabled decode step answers a next state: a line, or the truncated-instruction error (R214). -/
theorem decodeStep_ready {s : State} (hr : s.status = .running) (hc : s.cur < s.n) (mn mode op b1 b2) :
    ∃ t, decodeStep mn mode op b1 b2 s = .next t := by
  by_cases hf : s.cur + mode.len ≤ s.n
  · exact ⟨_, decodeStep_of_fits hr hc hf mn op b1 b2⟩
  · exact ⟨_, decodeStep_of_cut hr hc (Nat.not_le.1 hf) mn op b1 b2⟩

/-- An enabled step answers a next state (R214). -/
theorem step_ready {s : State} (hr : s.status = .running) (hc : s.cur < s.n) : ∃ t, step s = .next t := by
  by_cases hf : s.cur + lenOf (s.buf.read s.cur) ≤ s.n
  · obtain ⟨i, -, -, -, hs⟩ := step_of_fits hr hc hf
    rw [hs, exec_eq_decodeStep]
    exact decodeStep_ready hr hc _ _ _ _ _
  · exact ⟨_, step_of_cut hr hc (Nat.not_le.1 hf)⟩

/-- A fault comes from the continuation of an enabled step, or from a pass that has ended. -/
theorem whenEnabled_fault {s : State} {k : Result} {f : Fault} (h : whenEnabled s k = .fault f) :
    (s.status = .running ∧ s.cur < s.n ∧ k = .fault f) ∨ (s.status = .done ∧ f = .passDone) ∨
      (s.status = .truncated ∧ f = .passTruncated) := by
  unfold whenEnabled at h
  split at h
  · next hr =>
    split at h
    · next hc => exact .inl ⟨hr, hc, h⟩
    · exact nomatch h
  · next hd => exact .inr (.inl ⟨hd, (Host.Outcome.fault.inj h).symm⟩)
  · next ht => exact .inr (.inr ⟨ht, (Host.Outcome.fault.inj h).symm⟩)
  · exact nomatch h

/-- The only faults of a step are those of a pass that has ended (R121). -/
theorem step_fault {s : State} {f : Fault} (h : step s = .fault f) :
    (s.status = .done ∧ f = .passDone) ∨ (s.status = .truncated ∧ f = .passTruncated) := by
  obtain ⟨hr, hc, -⟩ | hended := whenEnabled_fault h
  · obtain ⟨t, ht⟩ := step_ready hr hc
    exact nomatch ht.symm.trans h
  · exact hended

end Sys2Proof.Machine
end

section
/-! SUPPORT. What any number of steps keeps: a predicate every step keeps, what the host supplied (R21, R52), and
the lines already produced (R27). -/

namespace Sys2Proof.Machine

/-- A predicate that every step keeps holds at the end of every run. -/
theorem run_preserves {P : State → Prop} (hstep : ∀ {s t : State}, P s → step s = .next t → P t) {k : Nat}
    {s t : State} (hs : P s) (h : Host.Core.run core k s = .next t) : P t := by
  induction k generalizing s with
  | zero => exact run_zero h ▸ hs
  | succ k ih =>
    obtain ⟨s', hs', hrun⟩ := run_succ_next h
    exact ih (hstep hs hs') hrun

/-- A step appends at most one line. -/
theorem step_out_prefix {s t : State} (h : step s = .next t) : s.out <+: t.out := by
  obtain ⟨-, -, ⟨-, rfl⟩ | ⟨-, i, -, -, -, rfl⟩⟩ := step_next h
  · exact List.prefix_rfl
  · exact List.prefix_append _ _

/-- `t` is a later state of the pass that `s` stands in: the host's values are the same, and lines may have been
added. -/
structure SamePass (s t : State) : Prop where
  buf : t.buf = s.buf
  n : t.n = s.n
  base : t.base = s.base
  rawMnemonic : t.rawMnemonic = s.rawMnemonic
  out : s.out <+: t.out

theorem SamePass.refl (s : State) : SamePass s s := ⟨rfl, rfl, rfl, rfl, List.prefix_rfl⟩

theorem SamePass.after_step {r s t : State} (hrs : SamePass r s) (h : step s = .next t) : SamePass r t := by
  obtain ⟨hbuf, hn, hbase, hraw⟩ := step_frame h
  exact ⟨hbuf.trans hrs.buf, hn.trans hrs.n, hbase.trans hrs.base, hraw.trans hrs.rawMnemonic,
    hrs.out.trans (step_out_prefix h)⟩

/-- A run stays in its pass. -/
theorem run_samePass {s t : State} {k : Nat} (h : Host.Core.run core k s = .next t) : SamePass s t :=
  run_preserves SamePass.after_step (.refl s) h

end Sys2Proof.Machine
end

section
/-! SUPPORT. The statements of 20_memory.md, settled. -/

namespace Sys2Proof.ByteBuffer

open Sys2Proof.Machine

/-- Settles O20: `cur < N` keeps the address sum below 2^16, and a target sum in that range is its own residue. -/
theorem addressesExactWithoutWrap : Obligations.AddressesExactWithoutWrap := by
  intro s b1 hwrap hc
  have haddr : s.base.toNat + s.cur < 2 ^ 16 := by
    have hend : s.base.toNat + s.n ≤ 0x10000 := hwrap
    omega
  refine ⟨toNat_dispAddr_of_lt haddr, fun hlo hhi => ?_⟩
  exact (toNat_branchTarget s.base s.cur 2 b1).trans (Int.emod_eq_of_lt hlo (Int.lt_add_one_of_le hhi))

/-- Settles O21: the operand is `b2` over `b1`, so its digits are the two bytes' digits, which the operand text of each
mode prints high byte first and the byte slots in buffer order. -/
theorem operandsAreLittleEndian : Obligations.OperandsAreLittleEndian := by
  intro base raw cur mn mode op b1 b2
  rw [hex4_operand16]
  exact ⟨toNat_operand16 b2 b1, rfl, ⟨rfl, rfl, rfl, rfl⟩, byteSlots_formatLine base raw cur mn mode op b1 b2⟩

/-- Settles O32: a read is checked against `N`, and the faults of a step are not the read fault. -/
theorem noReadPastTheEnd : Obligations.NoReadPastTheEnd := by
  refine ⟨fun s a => ⟨memRead_of_lt, memRead_of_ge⟩, fun s h => ?_⟩
  obtain ⟨-, hf⟩ | ⟨-, hf⟩ := step_fault h
  all_goals exact nomatch hf

/-- Settles O47: a run stays in its pass, and a read depends on `BUF` and `N` alone. -/
theorem bufferNeverChanges : Obligations.BufferNeverChanges := by
  intro k s t h
  obtain ⟨hbuf, hn, hbase, hraw, hout⟩ := run_samePass h
  exact ⟨hbuf, memRead_congr hbuf hn, hn, hbase, hraw, hout⟩

end Sys2Proof.ByteBuffer
end

section
/-! SUPPORT. The decoder and the encoder, both ways: what follows an instruction does not change its decoding, and
every opcode byte with its operand bytes present is the encoding of one well-formed instruction (R60, R90, R91). -/

namespace Sys2Proof.Laws

/-- Bytes after an instruction are left as they are. -/
theorem decode_append {bytes rest : List Byte} {i : Instr} (h : decode bytes = .ok (i, rest)) (tail : List Byte) :
    decode (bytes ++ tail) = .ok (i, rest ++ tail) := by
  cases bytes with
  | nil => exact nomatch h
  | cons op operands =>
    simp only [decode, List.cons_append] at h ⊢
    split at h <;> cases h
    all_goals next hs => simp only [hs, List.cons_append]

/-- A well-formed instruction is read back from its encoding. -/
theorem decode_encode {i : Instr} (hw : i.WellFormed = true) : decode (encode i) = .ok (i, []) := by
  cases i with
  | raw op => exact decode_undefined op [] hw
  | _ => rfl

/-- A well-formed instruction is read back from its encoding, whatever follows it. -/
theorem decode_encode_append {i : Instr} (hw : i.WellFormed = true) (rest : List Byte) :
    decode (encode i ++ rest) = .ok (i, rest) :=
  decode_append (decode_encode hw) rest

/-- No two well-formed instructions share an encoding. -/
theorem encode_injective {i j : Instr} (hi : i.WellFormed = true) (hj : j.WellFormed = true)
    (h : encode i = encode j) : i = j := by
  have hd := decode_encode hi
  rw [h, decode_encode hj] at hd
  cases hd
  rfl

/-- An opcode byte with its operand bytes present begins with the encoding of a well-formed instruction (R90). -/
theorem exists_encode_append {op : Byte} {rest : List Byte} (h : lenOf op ≤ rest.length + 1) :
    ∃ i : Instr, i.WellFormed = true ∧ op :: rest = encode i ++ rest.drop (lenOf op - 1) := by
  obtain ⟨i, -, -, he, hw⟩ := decode_agrees_with_map op (rest.getD 0 0) (rest.getD 1 0)
  refine ⟨i, hw, ?_⟩
  rw [he]
  rcases lenOf_cases op with hl | hl | hl <;> rw [hl] at h ⊢
  · rfl
  · match rest, h with
    | _ :: _, _ => rfl
  · match rest, h with
    | _ :: _ :: _, _ => rfl

/-- What the decoder reads is the encoding of a well-formed instruction, followed by the bytes it leaves. -/
theorem eq_encode_append_of_decode {bytes rest : List Byte} {i : Instr} (h : decode bytes = .ok (i, rest)) :
    bytes = encode i ++ rest ∧ i.WellFormed = true := by
  cases bytes with
  | nil => exact nomatch h
  | cons op operands =>
    by_cases hl : lenOf op ≤ operands.length + 1
    · obtain ⟨j, hw, hbytes⟩ := exists_encode_append hl
      rw [hbytes, decode_encode_append hw] at h
      cases h
      exact ⟨hbytes, hw⟩
    · rw [decode_truncated op operands (Nat.not_le.1 hl)] at h
      exact nomatch h

end Sys2Proof.Laws
end

section
/-! SUPPORT. The meaning and the step of an instruction that lies inside the buffer (R113, R120). -/

namespace Sys2Proof.Machine

open Sys2Proof.Laws Sys2Proof.Safety

/-- The meaning of an instruction inside the buffer appends its line and moves the cursor past it. -/
theorem exec_of_fits {s : State} {i : Instr} (hr : s.status = .running) (hc : s.cur < s.n)
    (hf : s.cur + i.len ≤ s.n) :
    exec i s = .next (advance i.len (emit (lineOf s.base s.rawMnemonic s.cur i) s)) := by
  rw [exec_eq_decodeStep]
  exact decodeStep_of_fits hr hc hf _ _ _ _

/-- A line begins with its address (R109). -/
theorem lineOf_ne_nil (base : Addr) (raw : Text) (cur : Nat) (i : Instr) : lineOf base raw cur i ≠ [] :=
  List.cons_ne_nil _ _

/-- Bytes that stand at the cursor are those read from there on. -/
theorem bytesFrom_eq_of_atCursor {s : State} {bytes : List Byte} (h : AtCursor s bytes) :
    bytesFrom s.buf s.cur bytes.length = bytes := by
  refine List.ext_getElem (bytesFrom_length _ _ _) fun k hk hk' => ?_
  have hread := bytesFrom_getD s.buf s.cur bytes.length k hk'
  rw [h k hk'] at hread
  simpa [hk, hk'] using hread

/-- The step with a well-formed instruction's bytes at the cursor is that instruction's meaning. -/
theorem step_eq_exec_of_atCursor {s : State} {i : Instr} (hr : s.status = .running) (hc : s.cur < s.n)
    (hw : i.WellFormed = true) (hf : s.cur + i.len ≤ s.n) (hat : AtCursor s (encode i)) :
    step s = exec i s := by
  have hop : s.buf.read s.cur = (encode i).headD 0 := by
    rw [encode_eq i] at hat ⊢
    exact hat 0 (Nat.succ_pos _)
  have hlen : lenOf (s.buf.read s.cur) = (encode i).length := by rw [hop, lenOf_encode i hw, encode_length]
  obtain ⟨j, he, hj, -, hs⟩ := step_of_fits hr hc (hlen ▸ encode_length i ▸ hf)
  rw [hlen, bytesFrom_eq_of_atCursor hat] at he
  rw [hs, encode_injective hj hw he]

/-- The three bytes `withFetchWord` stores stand at the cursor (R60). -/
theorem atCursor_withFetchWord {s : State} (hwf : Memory.wf s.buf) (nbits w : Nat) :
    AtCursor (s.withFetchWord nbits w)
      [BitVec.ofNat 8 (w % 2 ^ nbits), BitVec.ofNat 8 (w % 2 ^ nbits / 2 ^ 8),
        BitVec.ofNat 8 (w % 2 ^ nbits / 2 ^ 16)] := by
  intro k hk
  rw [withFetchWord_buf, withFetchWord_cur, Memory.read_load hwf, if_pos (by omega), Nat.add_sub_cancel_left]

/-- A first part of the bytes at the cursor stands there too. -/
theorem atCursor_of_append {s : State} {bytes rest : List Byte} (h : AtCursor s (bytes ++ rest)) :
    AtCursor s bytes := by
  intro k hk
  rw [h k (by rw [List.length_append]; omega), List.getD_append _ _ _ _ hk]

/-- A word decodes to what its three bytes decode to. -/
theorem decodeTableWord_eq_some {nbits w : Nat} {i : Instr} (h : decodeTableWord nbits w = some i) :
    ∃ rest, decode [BitVec.ofNat 8 (w % 2 ^ nbits), BitVec.ofNat 8 (w % 2 ^ nbits / 2 ^ 8),
      BitVec.ofNat 8 (w % 2 ^ nbits / 2 ^ 16)] = .ok (i, rest) := by
  rw [decodeTableWord] at h
  split at h
  · next j rest hd =>
    cases h
    exact ⟨rest, hd⟩
  · exact nomatch h

end Sys2Proof.Machine
end

section
/-! SUPPORT. The assembly text (R79, R108), and the modes that belong to one or two opcodes (R70, R77). -/

namespace Sys2Proof.Machine

@[simp] theorem asmText_nil (mn : Text) : asmText mn [] = mn := rfl

@[simp] theorem asmText_cons (mn : Text) (c : Char) (opnd : Text) :
    asmText mn (c :: opnd) = mn ++ ' ' :: c :: opnd := by
  simp [asmText]

/-- The text of each of the 56 mnemonics is three capital letters (R80). -/
theorem mnemonicText_capitals (raw : Text) {mn : Mnemonic} (h : mn ≠ .raw) :
    (mnemonicText raw mn).length = 3 ∧ ∀ c ∈ mnemonicText raw mn, 'A' ≤ c ∧ c ≤ 'Z' := by
  cases mn with
  | raw => exact absurd rfl h
  | _ => simp [mnemonicText]

end Sys2Proof.Machine

namespace Sys2Proof.Laws

/-- JMP (0x6C) is the one absolute indirect instruction (R77). -/
theorem classify_mode_eq_ind_iff (op : Byte) : (classify op).2 = .ind ↔ op = 0x6C := by
  revert op
  decide

/-- STX (0x96) and LDX (0xB6) are the ones indexed by Y in the zero page (R70). -/
theorem classify_mode_eq_zpy_iff (op : Byte) : (classify op).2 = .zpy ↔ op = 0x96 ∨ op = 0xB6 := by
  revert op
  decide

end Sys2Proof.Laws
end

section
/-! SUPPORT. The statements of 30_encoding.md, settled. -/

namespace Sys2Proof.EncodingTables

open Sys2Proof.Laws Sys2Proof.Machine Sys2Proof.Safety

/-- Settles O16: an instruction is read back from its own bytes and what follows does not matter; and decoded bytes
begin with the encoding of the instruction they give, whose opcode byte the map classifies. -/
theorem decodeEncodeAgree : Obligations.DecodeEncodeAgree := by
  refine ⟨fun i rest hw => decode_encode_append hw rest, fun bytes rest i h => ?_⟩
  obtain ⟨hbytes, hw⟩ := eq_encode_append_of_decode h
  exact ⟨hbytes, hw, classify_encode i hw⟩

/-- Settles O17: bytes that are long enough begin with an encoding, and bytes that are not decode to the truncation. -/
theorem decoderIsTotal : Obligations.DecoderIsTotal := by
  intro op rest
  refine ⟨fun h => ?_, decode_truncated op rest⟩
  obtain ⟨i, hw, hbytes⟩ := exists_encode_append h
  exact ⟨i, hbytes ▸ decode_encode_append hw _⟩

/-- Settles O29: the step is the meaning of the instruction the bytes encode, which appends that instruction's line. -/
theorem everyByteValueRenders : Obligations.EveryByteValueRenders := by
  intro s ⟨hr, hc⟩ hf
  obtain ⟨i, he, -, -, hs⟩ := step_of_fits hr hc hf
  have hlen : i.len = lenOf (s.buf.read s.cur) := by rw [← encode_length, he, bytesFrom_length]
  have hstep := hs.trans (exec_of_fits hr hc (hlen ▸ hf))
  exact ⟨_, i.len, _, hstep, by simpa using len_cases i, hlen, rfl, rfl, lineOf_ne_nil _ _ _ i⟩

/-- Settles O53: the word's bytes stand at the cursor and begin with the encoding of the instruction it decodes to, so
the step is that instruction's meaning; and the three bytes cover every length. -/
theorem fetchWordRunsNext : Obligations.FetchWordRunsNext := by
  intro s nbits w i hwf _ hword
  obtain ⟨rest, hd⟩ := decodeTableWord_eq_some hword
  obtain ⟨hbytes, hw⟩ := eq_encode_append_of_decode hd
  have hat : AtCursor (s.withFetchWord nbits w) (encode i) :=
    atCursor_of_append (hbytes ▸ atCursor_withFetchWord hwf nbits w)
  have hr : (s.withFetchWord nbits w).status = .running := rfl
  have hc : (s.withFetchWord nbits w).cur < (s.withFetchWord nbits w).n := by simp
  have hf : (s.withFetchWord nbits w).cur + i.len ≤ (s.withFetchWord nbits w).n := by
    have hlen := len_cases i
    rw [withFetchWord_cur, withFetchWord_n]
    omega
  have hstep := step_eq_exec_of_atCursor hr hc hw hf hat
  exact ⟨hstep, _, hstep.trans (exec_of_fits hr hc hf)⟩

/-- Settles O11, by evaluation of each word. -/
theorem publishedWordsDecode : Obligations.PublishedWordsDecode :=
  ⟨rfl, rfl, rfl, rfl, rfl, rfl, rfl, rfl, rfl, rfl, rfl, rfl, rfl⟩

/-- Settles O12: the lookup by evaluation, the counts by evaluation over the 256 bytes. -/
theorem widthTableAndCounts : Obligations.WidthTableAndCounts :=
  ⟨⟨rfl, rfl, rfl⟩, by decide +kernel, by decide +kernel, by decide +kernel, by decide +kernel⟩

/-- Settles O13: an operand text is empty, or begins with `$` or `(` and follows one space. -/
theorem oneAndThreeByteModes : Obligations.OneAndThreeByteModes := by
  intro mn op b1 b2
  refine ⟨⟨rfl, rfl⟩, ⟨rfl, rfl⟩, ⟨rfl, ?abs⟩, ⟨rfl, ?abx⟩, ⟨rfl, ?aby⟩,
    ⟨rfl, ?ind, classify_mode_eq_ind_iff op, rfl⟩, ⟨rfl, rfl, rfl, ?raw⟩⟩
  all_goals simp [opText]

/-- Settles O14: an operand text begins with `#`, `$` or `(` and follows one space. -/
theorem twoByteModes : Obligations.TwoByteModes := by
  intro mn op b1 base cur
  refine ⟨⟨rfl, ?imm⟩, ⟨rfl, ?zp⟩, ⟨rfl, ?zpx⟩, ⟨rfl, ?zpy, classify_mode_eq_zpy_iff op, rfl, rfl⟩,
    ⟨rfl, ?rel, annotation_rel base cur b1⟩, ⟨rfl, ?izx⟩, ⟨rfl, ?izy⟩⟩
  all_goals simp [opText]

/-- Settles O15: the list's length, distinctness and texts by evaluation, whatever `RAW_MNEMONIC` is; a mnemonic is
listed unless it is the raw data byte, and each listed one has three capital letters. -/
theorem mnemonicTexts : Obligations.MnemonicTexts := by
  intro raw all texts
  have hlisted : ∀ mn : Mnemonic, mn ∈ all ↔ mn ≠ .raw := by
    intro mn
    cases mn <;> decide
  exact ⟨rfl, by decide, hlisted, rfl, fun mn hmn => mnemonicText_capitals raw ((hlisted mn).1 hmn)⟩

end Sys2Proof.EncodingTables
end

section
/-! SUPPORT. A pass that has ended enables nothing (R121), the signed reading of a displacement (R10), and the opcodes
of mode `rel` (R110) and of the raw data byte (R205). -/

namespace Sys2Proof.Machine

theorem whenEnabled_done {s : State} (hd : s.status = .done) (k : Result) :
    whenEnabled s k = .fault .passDone := by
  simp [whenEnabled, hd]

theorem whenEnabled_truncated {s : State} (ht : s.status = .truncated) (k : Result) :
    whenEnabled s k = .fault .passTruncated := by
  simp [whenEnabled, ht]

/-- The signed reading of a displacement is two's complement (R10). -/
theorem sext8_eq_toInt (b : Byte) : sext8 b = b.toInt := by
  rw [sext8, BitVec.toInt_eq_toNat_cond]
  split <;> split <;> omega

end Sys2Proof.Machine

namespace Sys2Proof.Laws

/-- The relative instructions are the eight branches (R110). -/
theorem classify_mode_eq_rel_iff (op : Byte) :
    (classify op).2 = .rel ↔ op ∈ ([0x90, 0xB0, 0xF0, 0x30, 0xD0, 0x10, 0x50, 0x70] : List Byte) := by
  revert op
  decide

/-- An undefined byte has length 1 (R205). -/
theorem lenOf_of_undefined {op : Byte} (h : op ∈ undefinedBytes) : lenOf op = 1 := by
  rw [lenOf, (undefined_iff_raw op).1 (List.contains_iff_mem.2 h)]
  rfl

end Sys2Proof.Laws
end

section
/-! SUPPORT. What an instruction's meaning and a step can do, by the line of the instruction (`lineOf`, R109). -/

namespace Sys2Proof.Machine

open Sys2Proof.Laws Sys2Proof.Safety

/-- A line appended in a running pass: the cursor past the bytes, `DONE` exactly at `N` (R120). -/
theorem advance_emit_of_running {s : State} (hr : s.status = .running) (len : Nat) (line : Text) :
    advance len (emit line s) = { s with
      out := s.out ++ [line]
      cur := s.cur + len
      status := if s.cur + len = s.n then .done else .running } :=
  hr ▸ rfl

/-- The meaning of an instruction that reaches past the buffer is the truncated-instruction error. -/
theorem exec_of_cut {s : State} {i : Instr} (hr : s.status = .running) (hc : s.cur < s.n)
    (hf : s.n < s.cur + i.len) : exec i s = .next (raiseTruncated ((encode i).headD 0) i.len s) := by
  rw [exec_eq_decodeStep]
  exact decodeStep_of_cut hr hc hf _ _ _ _

/-- A meaning that completes without the error appends the instruction's line. -/
theorem exec_out {s t : State} {i : Instr} (h : exec i s = .next t) (ht : t.status ≠ .truncated) :
    t.out = s.out ++ [lineOf s.base s.rawMnemonic s.cur i] := by
  rw [exec_eq_decodeStep] at h
  obtain ⟨-, -, ⟨-, rfl⟩ | ⟨-, rfl⟩⟩ := decodeStep_next h
  · exact absurd rfl ht
  · rfl

/-- Any bytes of the buffer begin with the encoding of the instruction their opcode byte classifies. -/
theorem exists_encode_eq_bytesFrom (m : Memory) (a : Nat) :
    ∃ i : Instr, i.WellFormed = true ∧ encode i = bytesFrom m a (lenOf (m.read a)) ∧
      (i.mnemonic, i.mode) = classify (m.read a) := by
  obtain ⟨i, -, hm, he, hw⟩ := decode_agrees_with_map (m.read a) (m.read (a + 1)) (m.read (a + 2))
  refine ⟨i, hw, ?_, hm⟩
  rw [he]
  rcases lenOf_cases (m.read a) with hl | hl | hl <;> rw [hl] <;> rfl

/-- The step of an instruction inside the buffer appends its line and moves the cursor past it. -/
theorem step_of_fits_lineOf {s : State} (hr : s.status = .running) (hc : s.cur < s.n)
    (hf : s.cur + lenOf (s.buf.read s.cur) ≤ s.n) :
    ∃ i : Instr, i.WellFormed = true ∧ encode i = bytesFrom s.buf s.cur i.len ∧
      i.len = lenOf (s.buf.read s.cur) ∧
      step s = .next (advance i.len (emit (lineOf s.base s.rawMnemonic s.cur i) s)) := by
  obtain ⟨i, he, hw, -, hs⟩ := step_of_fits hr hc hf
  have hlen : i.len = lenOf (s.buf.read s.cur) := by rw [← encode_length, he, bytesFrom_length]
  exact ⟨i, hw, hlen ▸ he, hlen, hs.trans (exec_of_fits hr hc (hlen ▸ hf))⟩

/-- Everything a step that answers a next state can do: the line of a well-formed instruction whose encoding stands
at the cursor, and the cursor past it, or the truncated-instruction error. -/
theorem step_next_lineOf {s t : State} (h : step s = .next t) :
    s.status = .running ∧ s.cur < s.n ∧
      ((s.n < s.cur + lenOf (s.buf.read s.cur) ∧
          t = raiseTruncated (s.buf.read s.cur) (lenOf (s.buf.read s.cur)) s) ∨
        ∃ i : Instr, i.WellFormed = true ∧ encode i = bytesFrom s.buf s.cur i.len ∧
          i.len = lenOf (s.buf.read s.cur) ∧ s.cur + i.len ≤ s.n ∧
          t = advance i.len (emit (lineOf s.base s.rawMnemonic s.cur i) s)) := by
  obtain ⟨hr, hc, hcut | ⟨hf, -⟩⟩ := step_next h
  · exact ⟨hr, hc, .inl hcut⟩
  · obtain ⟨i, hw, he, hlen, hs⟩ := step_of_fits_lineOf hr hc hf
    exact ⟨hr, hc, .inr ⟨i, hw, he, hlen, hlen ▸ hf, Host.Outcome.next.inj (h.symm.trans hs)⟩⟩

end Sys2Proof.Machine
end

section
/-! SUPPORT. The layout of a line (R106 to R111): the address, the byte slots, the assembly text, which is a function
of the instruction alone, and the annotation. -/

namespace Sys2Proof.Safety

open Sys2Proof.Laws Sys2Proof.Machine

/-- The assembly text of an instruction (R108), a function of its bytes and `RAW_MNEMONIC`. -/
def instrText (raw : Text) (i : Instr) : Text :=
  asmText (mnemonicText raw i.mnemonic) (opText i.mode ((encode i).headD 0) (encode i)[1]? (encode i)[2]?)

/-- The padded byte columns are the three slots of a line (R106). -/
theorem byteColumns_encode (i : Instr) :
    byteColumns (encode i) = hex2 ((encode i).headD 0) ++ [' '] ++ byteSlot (encode i)[1]? ++ [' '] ++
      byteSlot (encode i)[2]? := by
  have hlen := encode_length i
  rcases len_cases i with hl | hl | hl <;> rw [hl] at hlen
  · obtain ⟨op, he⟩ := List.length_eq_one_iff.1 hlen
    rw [he]
    rfl
  · obtain ⟨op, b1, he⟩ := List.length_eq_two.1 hlen
    rw [he]
    rfl
  · obtain ⟨op, b1, b2, he⟩ := List.length_eq_three.1 hlen
    rw [he]
    rfl

@[simp] theorem byteColumns_encode_length (i : Instr) : (byteColumns (encode i)).length = 8 := by
  simp [byteColumns_encode]

/-- The parts of an instruction's line (R109). -/
theorem lineOf_eq (base : Addr) (raw : Text) (cur : Nat) (i : Instr) :
    lineOf base raw cur i = hex4 (dispAddr base cur) ++ " ".toList ++ byteColumns (encode i) ++ " ".toList ++
      instrText raw i ++ annotation base cur i.mode (encode i)[1]? := by
  rw [byteColumns_encode]
  simp [lineOf, formatLine, instrText]

/-- A branch is annotated with nine characters, any other instruction with none (R111). -/
theorem annotation_length (base : Addr) (cur : Nat) (i : Instr) :
    (annotation base cur i.mode (encode i)[1]?).length = if i.mode = .rel then 9 else 0 := by
  by_cases hm : i.mode = .rel
  · have hlen : (encode i).length = 2 := by rw [encode_length, Instr.len, hm]; rfl
    obtain ⟨op, b1, he⟩ := List.length_eq_two.1 hlen
    rw [he, hm]
    rfl
  · rw [annotation_of_ne_rel hm, if_neg hm]
    rfl

/-- What a line holds between its address and its annotation, a function of the instruction and `RAW_MNEMONIC`
(R116). -/
def lineBody (raw : Text) (i : Instr) : Text :=
  " ".toList ++ byteColumns (encode i) ++ " ".toList ++ instrText raw i

theorem lineOf_eq_append_lineBody (base : Addr) (raw : Text) (cur : Nat) (i : Instr) :
    lineOf base raw cur i =
      hex4 (dispAddr base cur) ++ (lineBody raw i ++ annotation base cur i.mode (encode i)[1]?) := by
  simp only [lineOf_eq, lineBody, List.append_assoc]

theorem lineOf_length (base : Addr) (raw : Text) (cur : Nat) (i : Instr) :
    (lineOf base raw cur i).length = 4 + ((lineBody raw i).length + if i.mode = .rel then 9 else 0) := by
  rw [lineOf_eq_append_lineBody, List.length_append, List.length_append, hex4_length, annotation_length]

/-- A line without its four address characters and its annotation is its body. -/
theorem lineOf_drop_take (base : Addr) (raw : Text) (cur : Nat) (i : Instr) :
    ((lineOf base raw cur i).drop 4).take
      ((lineOf base raw cur i).length - 4 - if i.mode = .rel then 9 else 0) = lineBody raw i := by
  rw [lineOf_length, Nat.add_sub_cancel_left, Nat.add_sub_cancel, lineOf_eq_append_lineBody,
    List.drop_left' (hex4_length _)]
  exact List.take_left

/-! ## The bytes are in the line -/

/-- A byte's digits are no padding. -/
theorem hexDigit_ne_space (d : BitVec 4) : hexDigit d ≠ ' ' := by
  revert d
  decide

/-- A byte slot shows whether there is a byte, and which. -/
theorem byteSlot_injective : Function.Injective byteSlot
  | none, none, _ => rfl
  | none, some _, h => absurd (List.cons.inj h).1.symm (hexDigit_ne_space _)
  | some _, none, h => absurd (List.cons.inj h).1 (hexDigit_ne_space _)
  | some _, some _, h => congrArg some (hex2_injective h)

/-- No two encodings share their byte columns. -/
theorem encode_eq_of_byteColumns_eq {i j : Instr} (h : byteColumns (encode i) = byteColumns (encode j)) :
    encode i = encode j := by
  rw [byteColumns_encode, byteColumns_encode] at h
  obtain ⟨h, h2⟩ := List.append_inj' h (by simp)
  obtain ⟨h, -⟩ := List.append_inj' h rfl
  obtain ⟨h, h1⟩ := List.append_inj' h (by simp)
  obtain ⟨h0, -⟩ := List.append_inj' h rfl
  rw [encode_eq i, encode_eq j, hex2_injective h0, byteSlot_injective h1, byteSlot_injective h2]

/-- Equal lines are lines of the same bytes, whatever the parameters and the cursors. -/
theorem encode_eq_of_lineOf_eq {base base' : Addr} {raw raw' : Text} {c c' : Nat} {i j : Instr}
    (h : lineOf base raw c i = lineOf base' raw' c' j) : encode i = encode j := by
  rw [lineOf_eq, lineOf_eq] at h
  simp only [List.append_assoc] at h
  obtain ⟨-, h⟩ := List.append_inj h rfl
  obtain ⟨-, h⟩ := List.append_inj h rfl
  obtain ⟨h, -⟩ := List.append_inj h (by simp)
  exact encode_eq_of_byteColumns_eq h

/-- Equal listings are listings of the same bytes. -/
theorem map_encode_eq_of_linesOf_eq {base base' : Addr} {raw raw' : Text} {c c' : Nat} {is js : List Instr}
    (h : linesOf base raw c is = linesOf base' raw' c' js) : is.map encode = js.map encode := by
  induction is generalizing c c' js with
  | nil =>
    cases js with
    | nil => rfl
    | cons j js => exact nomatch h
  | cons i is ih =>
    cases js with
    | nil => exact nomatch h
    | cons j js =>
      obtain ⟨hline, hrest⟩ := List.cons.inj h
      rw [List.map_cons, List.map_cons, encode_eq_of_lineOf_eq hline, ih hrest]

end Sys2Proof.Safety
end

section
/-! SUPPORT. Locality of `decodeOne` (R113): the bytes it reads. -/

namespace Sys2Proof.Machine

open Sys2Proof.Laws

theorem bytesFrom_congr {m m' : Memory} {a k : Nat} (h : ∀ x, a ≤ x → x < a + k → m.read x = m'.read x) :
    bytesFrom m a k = bytesFrom m' a k := by
  induction k generalizing a with
  | zero => rfl
  | succ k ih =>
    rw [bytesFrom, bytesFrom, h a le_rfl (by omega), ih fun x hx hx' => h x (by omega) (by omega)]

theorem bytesFrom_add (m : Memory) (a j k : Nat) :
    bytesFrom m a (j + k) = bytesFrom m a j ++ bytesFrom m (a + j) k := by
  induction j generalizing a with
  | zero => rw [Nat.zero_add]; rfl
  | succ j ih =>
    rw [Nat.succ_add, bytesFrom, bytesFrom, ih (a + 1), List.cons_append, Nat.add_assoc, Nat.add_comm 1 j]

/-- Two states that agree on the bytes of an instruction inside both their buffers decode it to one line. -/
theorem decodeOne_congr_of_fits {s s' : State} (hcur : s.cur = s'.cur) (hbase : s.base = s'.base)
    (hraw : s.rawMnemonic = s'.rawMnemonic) (hc : s.cur < s.n) (hc' : s.cur < s'.n)
    (hb : bytesFrom s.buf s.cur (lenOf (s.buf.read s.cur)) = bytesFrom s'.buf s.cur (lenOf (s.buf.read s.cur)))
    (hop : s.buf.read s.cur = s'.buf.read s.cur)
    (hf : s.cur + lenOf (s.buf.read s.cur) ≤ s.n) (hf' : s.cur + lenOf (s.buf.read s.cur) ≤ s'.n) :
    decodeOne s = decodeOne s' := by
  obtain ⟨i, -, he, hm⟩ := exists_encode_eq_bytesFrom s.buf s.cur
  rw [decodeOne_of_fits hc hf he hm]
  rw [hb] at he
  rw [hop, hcur] at he hm hf'
  rw [hcur] at hc'
  rw [decodeOne_of_fits hc' hf' he hm, hop, hcur, hbase, hraw]

end Sys2Proof.Machine
end

section
/-! SUPPORT. A pass as a disassembly: what every step adds to it, and that it ends (R113, R120, R121). -/

namespace Sys2Proof.Safety

open Sys2Proof.Laws Sys2Proof.Machine

theorem linesOf_append (base : Addr) (raw : Text) (c : Nat) (is js : List Instr) :
    linesOf base raw c (is ++ js) = linesOf base raw c is ++ linesOf base raw (c + (is.map Instr.len).sum) js := by
  induction is generalizing c with
  | nil => rfl
  | cons i is ih =>
    rw [List.cons_append, linesOf, ih, linesOf, List.map_cons, List.sum_cons, List.cons_append, Nat.add_assoc]

/-- The bytes before the cursor are the encodings of these well-formed instructions one after another, and the output
is their lines, each at the cursor equal to the sum of the lengths before it. -/
structure Disassembles (s : State) (is : List Instr) : Prop where
  wellFormed : ∀ i ∈ is, i.WellFormed = true
  bytes : bytesFrom s.buf 0 s.cur = (is.map encode).flatten
  out : s.out = linesOf s.base s.rawMnemonic 0 is
  cur : s.cur = (is.map Instr.len).sum

/-- A pass starts as the disassembly of no bytes. -/
theorem disassembles_startPass (bytes : List Byte) (base : Addr) (raw : Text) (err : ErrRecord) :
    Disassembles (startPass bytes base raw err) [] :=
  ⟨List.forall_mem_nil _, rfl, rfl, rfl⟩

/-- The line of the instruction at the cursor extends the disassembly by that instruction. -/
theorem Disassembles.advance_emit {s : State} {is : List Instr} (hs : Disassembles s is) {i : Instr}
    (hw : i.WellFormed = true) (he : encode i = bytesFrom s.buf s.cur i.len) :
    Disassembles (advance i.len (emit (lineOf s.base s.rawMnemonic s.cur i) s)) (is ++ [i]) where
  wellFormed := List.forall_mem_append.2 ⟨hs.wellFormed, List.forall_mem_singleton.2 hw⟩
  bytes := by
    rw [advance_buf, emit_buf, advance_cur, emit_cur, bytesFrom_add, Nat.zero_add, ← he, hs.bytes]
    simp
  out := by
    rw [advance_out, emit_out, advance_base, emit_base, advance_rawMnemonic, emit_rawMnemonic, linesOf_append,
      Nat.zero_add, ← hs.cur, ← hs.out]
    rfl
  cur := by
    rw [advance_cur, emit_cur, List.map_append, List.sum_append, ← hs.cur]
    rfl

/-- Every step keeps the output a disassembly of the bytes before the cursor. -/
theorem Disassembles.after_step {s t : State} (hs : ∃ is, Disassembles s is) (h : step s = .next t) :
    ∃ is, Disassembles t is := by
  obtain ⟨is, hs⟩ := hs
  obtain ⟨-, -, ⟨-, rfl⟩ | ⟨i, hw, he, -, -, rfl⟩⟩ := step_next_lineOf h
  · exact ⟨is, hs.wellFormed, hs.bytes, hs.out, hs.cur⟩
  · exact ⟨is ++ [i], hs.advance_emit hw he⟩

/-- The buffer of a pass holds the binary. -/
theorem bytesFrom_startPass (bytes : List Byte) (base : Addr) (raw : Text) (err : ErrRecord) :
    bytesFrom (startPass bytes base raw err).buf 0 bytes.length = bytes := by
  have hnil : Memory.wf [] := ⟨.nil, List.forall_mem_nil _⟩
  refine bytesFrom_eq_of_atCursor (s := startPass bytes base raw err) fun k hk => ?_
  rw [startPass_buf, startPass_cur, Memory.read_load hnil, if_pos ⟨Nat.zero_le _, Nat.add_lt_add_left hk 0⟩]
  simp

/-- The bytes that are not disassembled yet, from the cursor to the end of the buffer. -/
def remaining (s : State) : List Byte := bytesFrom s.buf s.cur (s.n - s.cur)

@[simp] theorem remaining_length (s : State) : (remaining s).length = s.n - s.cur := bytesFrom_length _ _ _

theorem remaining_eq_nil {s : State} (h : s.cur = s.n) : remaining s = [] := by
  rw [remaining, h, Nat.sub_self, bytesFrom]

theorem remaining_eq_cons {s : State} (h : s.cur < s.n) :
    remaining s = s.buf.read s.cur :: bytesFrom s.buf (s.cur + 1) (s.n - s.cur - 1) := by
  rw [remaining, ← bytesFrom, Nat.succ_eq_add_one, Nat.sub_add_cancel (by omega)]

/-- At every state of a pass the binary is the encodings of the instructions already listed and the bytes from the
cursor on. -/
theorem run_startPass_disassembles {bytes : List Byte} {base : Addr} {raw : Text} {err : ErrRecord} {k : Nat}
    {t : State} (h : Host.Core.run core k (startPass bytes base raw err) = .next t) :
    Inv t ∧ t.n = bytes.length ∧ ∃ is, Disassembles t is ∧ t.out = linesOf base raw 0 is ∧
      bytes = (is.map encode).flatten ++ remaining t := by
  have hinv : Inv t := run_preserves inv_step (inv_startPass bytes base raw err) h
  obtain ⟨hbuf, hn, hbase, hraw, -⟩ := run_samePass h
  obtain ⟨is, hdis⟩ := run_preserves Disassembles.after_step ⟨[], disassembles_startPass bytes base raw err⟩ h
  have hn' : t.n = bytes.length := hn
  obtain ⟨-, ⟨hcur, -⟩, -⟩ := id hinv
  refine ⟨hinv, hn', is, hdis, ?_, ?_⟩
  · rw [hdis.out, hbase, hraw]
    rfl
  · calc bytes = bytesFrom t.buf 0 t.n := by rw [hbuf, hn', bytesFrom_startPass]
      _ = bytesFrom t.buf 0 (t.cur + (t.n - t.cur)) := by rw [Nat.add_sub_cancel' hcur]
      _ = (is.map encode).flatten ++ remaining t := by rw [bytesFrom_add, hdis.bytes, Nat.zero_add]; rfl

/-- A pass that is `DONE` has disassembled the whole binary. -/
theorem run_startPass_done {bytes : List Byte} {base : Addr} {raw : Text} {err : ErrRecord} {k : Nat} {t : State}
    (h : Host.Core.run core k (startPass bytes base raw err) = .next t) (hd : t.status = .done) :
    ∃ is : List Instr, t.out = linesOf base raw 0 is ∧ bytes = (is.map encode).flatten := by
  obtain ⟨⟨-, ⟨-, -, hdone, -⟩, -⟩, -, is, -, hout, hbytes⟩ := run_startPass_disassembles h
  rw [remaining_eq_nil (hdone hd), List.append_nil] at hbytes
  exact ⟨is, hout, hbytes⟩

/-- The bytes of a pass that ends `TRUNCATED` from the cursor on are the one or two bytes of an instruction cut short,
and `err` describes them (R213). -/
theorem remaining_of_truncated {t : State} (herr : ErrWf t) (ht : t.status = .truncated) :
    ((remaining t).length = 1 ∨ (remaining t).length = 2) ∧ t.err.cur = t.cur ∧
      t.err.opcode = (remaining t).headD 0 ∧ t.err.avail = (remaining t).length ∧
      decode (remaining t) = .error (.truncated t.err.opcode t.err.need.toNat (remaining t).length) := by
  obtain ⟨hc, hcur, hop, hneed, havail, hcut⟩ := herr ht
  have hlen := lenOf_cases t.err.opcode
  have hcons := remaining_eq_cons hc
  rw [← hop] at hcons
  have hshort : (bytesFrom t.buf (t.cur + 1) (t.n - t.cur - 1)).length + 1 < lenOf t.err.opcode := by
    rw [bytesFrom_length]
    omega
  have hdec := decode_truncated t.err.opcode _ hshort
  rw [← hcons, ← List.length_cons, ← hcons] at hdec
  rw [remaining_length] at hdec ⊢
  exact ⟨by omega, hcur, by rw [hcons]; rfl, havail, hneed ▸ hdec⟩

/-- A step of a running pass ends it or brings the cursor nearer to `N` (R206). -/
theorem step_ends_or_advances {s t : State} (h : step s = .next t) :
    t.status = .done ∨ t.status = .truncated ∨
      (t.status = .running ∧ t.n = s.n ∧ s.cur < t.cur) := by
  obtain ⟨hr, -, ⟨-, rfl⟩ | ⟨i, -, -, -, -, rfl⟩⟩ := step_next_lineOf h
  · exact .inr (.inl rfl)
  · have hlen := len_cases i
    by_cases hn : s.cur + i.len = s.n
    · exact .inl (by simp [hr, hn])
    · exact .inr (.inr ⟨by simp [hr, hn], rfl, by rw [advance_cur, emit_cur]; omega⟩)

/-- A running pass ends in at most as many steps as there are bytes left (R121). -/
theorem run_ends {s : State} (hinv : Inv s) (hr : s.status = .running) :
    ∃ k t, k ≤ s.n - s.cur ∧ Host.Core.run core k s = .next t ∧ (t.status = .done ∨ t.status = .truncated) := by
  induction hm : s.n - s.cur using Nat.strong_induction_on generalizing s with
  | _ m ih =>
    obtain ⟨-, ⟨-, hrun, -⟩, -⟩ := id hinv
    have hc := hrun hr
    obtain ⟨s', hs⟩ := step_ready hr hc
    have hone : Host.Core.run core 1 s = .next s' := run_succ_of_next hs 0
    obtain hd | ht | ⟨hr', hn, hcur⟩ := step_ends_or_advances hs
    · exact ⟨1, s', by omega, hone, .inl hd⟩
    · exact ⟨1, s', by omega, hone, .inr ht⟩
    · obtain ⟨k, t, hk, hrest, hend⟩ := ih (s'.n - s'.cur) (by omega) (inv_step hinv hs) hr' rfl
      exact ⟨k + 1, t, by omega, (run_succ_of_next hs k).trans hrest, hend⟩

/-- A pass ends in at most as many steps as the binary has bytes. -/
theorem run_startPass_ends (bytes : List Byte) (base : Addr) (raw : Text) (err : ErrRecord) :
    ∃ k t, k ≤ bytes.length ∧ Host.Core.run core k (startPass bytes base raw err) = .next t ∧
      (t.status = .done ∨ t.status = .truncated) := by
  have hstart := startPass_status bytes base raw err
  rw [startStatus] at hstart
  split at hstart
  · exact ⟨0, _, Nat.zero_le _, rfl, .inl hstart⟩
  · exact run_ends (inv_startPass bytes base raw err) hstart

/-- Other contents of `err` at the start of a run do not change it, and are gone once the error is taken. -/
theorem run_with_err {k : Nat} {s t : State} (hs : s.status ≠ .truncated)
    (h : Host.Core.run core k s = .next t) (e : ErrRecord) :
    ∃ e', Host.Core.run core k { s with err := e } = .next { t with err := e' } ∧
      (t.status = .truncated → e' = t.err) := by
  induction k generalizing s with
  | zero =>
    cases run_zero h
    exact ⟨e, rfl, fun ht => absurd ht hs⟩
  | succ k ih =>
    obtain ⟨s', hstep, hrun⟩ := run_succ_next h
    have hstep' := PassState.errIsNeverRead s s' e hstep
    by_cases ht : s'.status = .truncated
    · rw [if_pos ht] at hstep'
      exact ⟨t.err, (run_succ_of_next hstep' k).trans hrun, fun _ => rfl⟩
    · rw [if_neg ht] at hstep'
      obtain ⟨e', hrun', he'⟩ := ih ht hrun
      exact ⟨e', (run_succ_of_next hstep' k).trans hrun', he'⟩

end Sys2Proof.Safety
end

section
/-! SUPPORT. The statements of 40_decode_engine.md, settled. -/

namespace Sys2Proof.DecodeEngine

open Sys2Proof.Laws Sys2Proof.Machine Sys2Proof.Safety

/-- Settles O48: the pass ends; its output is then the disassembly of the bytes before the cursor, and the invariant
says that none are left (`DONE`) or that `err` describes those left (`TRUNCATED`). -/
theorem passDisassemblesTheBuffer : Obligations.PassDisassemblesTheBuffer := by
  intro bytes base raw err
  obtain ⟨k, t, hk, hrun, hend⟩ := run_startPass_ends bytes base raw err
  obtain ⟨⟨-, ⟨-, -, hdone, -⟩, herr⟩, hn, is, hdis, hout, hbytes⟩ := run_startPass_disassembles hrun
  refine ⟨k, t, is, remaining t, hk, hrun, hdis.wellFormed, hbytes, hout, hdis.cur, ?_⟩
  obtain hd | ht := hend
  · exact .inl ⟨hd, remaining_eq_nil (hdone hd), (hdone hd).trans hn⟩
  · exact .inr ⟨ht, remaining_of_truncated herr ht⟩

/-- Settles O49, by `run_ends`. -/
theorem passEndsFromAnyState : Obligations.PassEndsFromAnyState := fun _ => run_ends

/-- Settles O50: both binaries are the encodings of the instructions whose lines the listings are, and equal lines have
equal byte slots. -/
theorem sameListingSameBinary : Obligations.SameListingSameBinary := by
  intro bytes bytes' base base' raw raw' err err' k k' t t' h h' hd hd' hout
  obtain ⟨is, hlines, hbytes⟩ := run_startPass_done h hd
  obtain ⟨js, hlines', hbytes'⟩ := run_startPass_done h' hd'
  rw [hlines, hlines'] at hout
  rw [hbytes, hbytes', map_encode_eq_of_linesOf_eq hout]

/-- Settles O51: no pass starts `TRUNCATED`, and the contents of `err` change nothing but themselves. -/
theorem rerunGivesTheSameResult : Obligations.RerunGivesTheSameResult := by
  intro bytes base raw err err' k t h
  have hstart : (startPass bytes base raw err).status ≠ .truncated := by
    rw [startPass_status, startStatus_eq_statusAt]
    exact statusAt_running_ne_truncated _ _
  obtain ⟨e', hrun, he'⟩ := run_with_err hstart h err'
  exact ⟨_, hrun, rfl, rfl, rfl, he'⟩

/-- Settles O19: the modes and lengths by the map; the signed byte is the two's-complement reading, whose bounds are
those of 8 bits. -/
theorem branchTargetFormula : Obligations.BranchTargetFormula := by
  refine ⟨classify_mode_eq_rel_iff, fun op hm => ?_, fun base cur b1 => ?_⟩
  · rw [lenOf, hm]
    rfl
  · have hsext := sext8_eq_toInt b1
    have hlo := BitVec.le_toInt b1
    have hhi := BitVec.toInt_lt (x := b1)
    exact ⟨hsext, by omega, by omega, toNat_branchTarget base cur 2 b1⟩

/-- Settles O22: the line is `lineOf`, and the address, the separators and the padded byte slots are 14 characters. -/
theorem lineLayout : Obligations.LineLayout := by
  intro i s t h ht
  have hline := lineOf_eq s.base s.rawMnemonic s.cur i
  have hlen : (hex4 (dispAddr s.base s.cur) ++ " ".toList ++ byteColumns (encode i) ++ " ".toList).length = 14 := by
    simp
  refine ⟨_, _, _, exec_out h ht, hline, rfl, rfl, fun hm => annotation_of_ne_rel hm _ _ _, ?_, ?_⟩
  · rw [hline, List.append_assoc]
    exact List.drop_left' hlen
  · rw [hline, List.append_assoc, List.take_left' hlen, hlen]

/-- Settles O23: between the address and the annotation a line is a function of the instruction and `RAW_MNEMONIC`. -/
theorem textIsPositionIndependent : Obligations.TextIsPositionIndependent := by
  intro i s s' t t' h h' ht ht' hraw
  refine ⟨_, _, exec_out h ht, exec_out h' ht', ?_, ?_⟩
  · rw [lineOf_length, lineOf_length, hraw]
  · exact (lineOf_drop_take _ _ _ i).trans (hraw ▸ (lineOf_drop_take _ _ _ i).symm)

/-- Settles O24: inside the buffer the meaning appends the line, otherwise it takes the error. -/
theorem everyInstructionCompletes : Obligations.EveryInstructionCompletes := by
  intro i s ⟨hr, hc⟩
  refine ⟨fun hf => ⟨lineOf s.base s.rawMnemonic s.cur i, ?_⟩, exec_of_cut hr hc⟩
  rw [exec_of_fits hr hc hf, advance_emit_of_running hr]

/-- Settles O27, by `step_eq_passStep`. -/
theorem stepIsTheSpecPassStep : Obligations.StepIsTheSpecPassStep := step_eq_passStep

/-- Settles O28: at least the opcode byte lies inside the buffer, so an instruction cut short has length 2 or 3; one
inside the buffer appends its line, which leaves `err` alone. -/
theorem truncationExactly : Obligations.TruncationExactly := by
  refine ⟨fun s ⟨hr, hc⟩ => ⟨fun hcut => ⟨?_, step_of_cut hr hc hcut⟩, fun hf => ?_⟩, by decide +kernel,
    fun _ => lenOf_of_undefined⟩
  · have hlen := lenOf_cases (s.buf.read s.cur)
    omega
  · obtain ⟨i, -, -, -, hs⟩ := step_of_fits_lineOf hr hc hf
    exact ⟨_, hs, by simp [hr], rfl⟩

/-- Settles O36: inside both buffers the two states decode one instruction; cut short, which needs the same `N`, they
raise the same error. -/
theorem decodeOneIsLocal : Obligations.DecodeOneIsLocal := by
  intro s s' hcur hbase hraw hc hc' hbytes hn
  have hlen := lenOf_cases (s.buf.read s.cur)
  have hop := hbytes s.cur le_rfl (by omega) hc
  by_cases hf : s.cur + lenOf (s.buf.read s.cur) ≤ s.n
  · have hf' : s.cur + lenOf (s.buf.read s.cur) ≤ s'.n := by omega
    have hb := bytesFrom_congr fun x hx hx' => hbytes x hx hx' (by omega)
    exact decodeOne_congr_of_fits hcur hbase hraw hc hc' hb hop hf hf'
  · have hn' : s.n = s'.n := by omega
    rw [decodeOne_of_cut hc (by omega)]
    rw [hn', hop, hcur] at hf
    rw [hcur] at hop hc'
    rw [decodeOne_of_cut hc' (Nat.not_le.1 hf)]
    simp [hop, hcur, hn']

/-- Settles O37: the bounds check and the move take the one length of the opcode byte, which both states share. -/
theorem cursorFollowsBytesAlone : Obligations.CursorFollowsBytesAlone := by
  intro s s' t hbuf hn hcur hstatus h
  obtain ⟨hr, hc, hcase⟩ := step_next_lineOf h
  have hr' : s'.status = .running := hstatus ▸ hr
  have hc' : s'.cur < s'.n := hcur ▸ hn ▸ hc
  obtain ⟨hcut, rfl⟩ | ⟨i, -, -, hlen, hf, rfl⟩ := hcase
  · rw [hbuf, hcur, hn] at hcut
    exact ⟨fun ht => absurd rfl ht, _, step_of_cut hr' hc' hcut, by simp [hbuf, hcur, hn]⟩
  · have hlen' := hlen
    rw [hbuf, hcur] at hlen'
    rw [hlen', hcur, hn] at hf
    obtain ⟨j, -, -, hj, hs⟩ := step_of_fits_lineOf hr' hc' hf
    refine ⟨fun _ => by simp [hlen], _, hs, ?_⟩
    simp [hj, hlen', hcur, hn, hr, hr']

/-- Settles O26, by `step_eq_exec_of_atCursor`. -/
theorem stepRunsTheDecodedInstruction : Obligations.StepRunsTheDecodedInstruction :=
  fun _ _ ⟨hr, hc⟩ hw hf hat => step_eq_exec_of_atCursor hr hc hw hf hat

/-- Settles O33: neither status enables anything, whatever would follow. -/
theorem nothingRunsAfterThePass : Obligations.NothingRunsAfterThePass := by
  intro i s
  rw [exec_eq_decodeStep]
  exact ⟨fun hd => ⟨whenEnabled_done hd _, whenEnabled_done hd _⟩,
    fun ht => ⟨whenEnabled_truncated ht _, whenEnabled_truncated ht _⟩⟩

end Sys2Proof.DecodeEngine
end

section
/-! SUPPORT. What an opcode row says of its instruction, from the line of the instruction (R108 to R113) and the
truncated-instruction error (R112). -/

namespace Sys2Proof.Safety

open Sys2Proof.Laws Sys2Proof.Machine

/-- The line of an instruction, appended in a running pass, is its row's next state. -/
theorem advance_emit_lineOf {s : State} (hr : s.status = .running) (i : Instr) :
    advance i.len (emit (lineOf s.base s.rawMnemonic s.cur i) s) =
      rendered s (encode i) (instrText s.rawMnemonic i ++ annotation s.base s.cur i.mode (encode i)[1]?) := by
  rw [advance_emit_of_running hr, lineOf_eq, List.append_assoc, ← encode_length]
  rfl

/-- A well-formed instruction renders as its assembly text and its annotation. -/
theorem rendersAs_instrText {i : Instr} (hw : i.WellFormed = true) :
    RendersAs i (encode i)
      (fun s => instrText s.rawMnemonic i ++ annotation s.base s.cur i.mode (encode i)[1]?) := by
  refine ⟨decode_encode hw, rfl, fun s ⟨hr, hc⟩ hf => ?_⟩
  rw [encode_length] at hf
  have hexec := exec_of_fits hr hc hf
  rw [advance_emit_lineOf hr] at hexec
  exact ⟨hexec, fun hat => (step_eq_exec_of_atCursor hr hc hw hf hat).trans hexec⟩

/-- A well-formed instruction that reaches past the buffer is cut short. -/
theorem cutShort_encode {i : Instr} (hw : i.WellFormed = true) :
    CutShort i ((encode i).headD 0) (encode i).length := by
  intro s ⟨hr, hc⟩ hf
  rw [encode_length] at hf ⊢
  refine ⟨exec_of_cut hr hc hf, fun hop => ?_⟩
  have hlen : lenOf (s.buf.read s.cur) = i.len := hop ▸ lenOf_encode i hw
  rw [step_of_cut hr hc (hlen ▸ hf), hlen, hop]
  rfl

/-- The row of a well-formed instruction without annotation: its bytes, and its assembly text where `RAW_MNEMONIC`
does not enter it. -/
theorem row_of_instrText {i : Instr} {bytes : List Byte} {text : Text} (hw : i.WellFormed = true)
    (he : encode i = bytes) (hm : i.mode ≠ .rel) (ht : ∀ raw, instrText raw i = text) : Row i bytes text := by
  subst he
  refine ⟨?_, cutShort_encode hw⟩
  have hrenders := rendersAs_instrText hw
  simpa only [annotation_of_ne_rel hm, List.append_nil, ht] using hrenders

end Sys2Proof.Safety
end

section
/-! SUPPORT. The statements of 41_load_store.md, settled. -/

namespace Sys2Proof.LoadStore

open Sys2Proof.Safety

/-- Settles O1: every row is a well-formed instruction without annotation, so it is `row_of_instrText` at the row's
bytes and text, both read off the encoder and the operand text. -/
theorem loadAndStoreRows : Obligations.LoadAndStoreRows := by
  intro b1 b2
  refine ⟨?ldaIzx, ?ldaZp, ?ldaImm, ?ldaAbs, ?ldaIzy, ?ldaZpx, ?ldaAby, ?ldaAbx,
    ?ldxImm, ?ldxZp, ?ldxAbs, ?ldxZpy, ?ldxAby,
    ?ldyImm, ?ldyZp, ?ldyAbs, ?ldyZpx, ?ldyAbx,
    ?staIzx, ?staZp, ?staAbs, ?staIzy, ?staZpx, ?staAby, ?staAbx,
    ?stxZp, ?stxAbs, ?stxZpy,
    ?styZp, ?styAbs, ?styZpx⟩
  all_goals exact row_of_instrText rfl rfl nofun fun _ => rfl

end Sys2Proof.LoadStore
end

section
/-! SUPPORT. What an opcode row of length 1 says of its instruction (R108 to R113). -/

namespace Sys2Proof.Safety

open Sys2Proof.Machine

/-- The row of a well-formed instruction of one byte, without operand and annotation: the line's half of
`row_of_instrText`. -/
theorem row1_of_instrText {i : Instr} {op : Byte} {text : Text} (hw : i.WellFormed = true)
    (he : encode i = [op]) (hm : i.mode ≠ .rel) (ht : ∀ raw, instrText raw i = text) : Row1 i op text :=
  (row_of_instrText hw he hm ht).1

end Sys2Proof.Safety
end

section
/-! SUPPORT. The statements of 42_transfer_stack.md, settled. -/

namespace Sys2Proof.TransferStack

open Sys2Proof.Safety

/-- Settles O2: every row is a well-formed instruction of one byte, so it is `row1_of_instrText` at the row's opcode
and text, both read off the encoder and the mnemonic. -/
theorem transferAndStackRows : Obligations.TransferAndStackRows := by
  refine ⟨?tax, ?tay, ?tsx, ?txa, ?txs, ?tya, ?pha, ?php, ?pla, ?plp⟩
  all_goals exact row1_of_instrText rfl rfl nofun fun _ => rfl

end Sys2Proof.TransferStack
end

section
/-! SUPPORT. The statements of 43_arith_logic.md, settled. -/

namespace Sys2Proof.ArithLogic

open Sys2Proof.Safety

/-- Settles O3: the six mnemonics share one set of eight modes, none of them `rel`, so every row is
`row_of_instrText` at its opcode, its operand bytes and its assembly text. -/
theorem accumulatorArithmeticRows : Obligations.AccumulatorArithmeticRows := by
  intro b1 b2
  refine ⟨?adcIzx, ?adcZp, ?adcImm, ?adcAbs, ?adcIzy, ?adcZpx, ?adcAby, ?adcAbx,
    ?sbcIzx, ?sbcZp, ?sbcImm, ?sbcAbs, ?sbcIzy, ?sbcZpx, ?sbcAby, ?sbcAbx,
    ?andIzx, ?andZp, ?andImm, ?andAbs, ?andIzy, ?andZpx, ?andAby, ?andAbx,
    ?oraIzx, ?oraZp, ?oraImm, ?oraAbs, ?oraIzy, ?oraZpx, ?oraAby, ?oraAbx,
    ?eorIzx, ?eorZp, ?eorImm, ?eorAbs, ?eorIzy, ?eorZpx, ?eorAby, ?eorAbx,
    ?cmpIzx, ?cmpZp, ?cmpImm, ?cmpAbs, ?cmpIzy, ?cmpZpx, ?cmpAby, ?cmpAbx⟩
  all_goals exact row_of_instrText rfl rfl nofun fun _ => rfl

/-- Settles O4: `row_of_instrText` for the modes `imm`, `zp`, `zpx`, `abs` and `abx` these five mnemonics have. -/
theorem bitCompareAndMemoryCountRows : Obligations.BitCompareAndMemoryCountRows := by
  intro b1 b2
  refine ⟨?bitZp, ?bitAbs,
    ?cpxImm, ?cpxZp, ?cpxAbs,
    ?cpyImm, ?cpyZp, ?cpyAbs,
    ?incZp, ?incAbs, ?incZpx, ?incAbx,
    ?decZp, ?decAbs, ?decZpx, ?decAbx⟩
  all_goals exact row_of_instrText rfl rfl nofun fun _ => rfl

/-- Settles O5: the four have no operand byte, so `row1_of_instrText` gives each row from its opcode and mnemonic. -/
theorem indexCountRows : Obligations.IndexCountRows := by
  refine ⟨?inx, ?iny, ?dex, ?dey⟩
  all_goals exact row1_of_instrText rfl rfl nofun fun _ => rfl

end Sys2Proof.ArithLogic
end

section
/-! SUPPORT. The statements of 44_shift_rotate.md, settled. -/

namespace Sys2Proof.ShiftRotate

open Sys2Proof.Safety

/-- Settles O6: the accumulator form of each mnemonic is one byte and prints no operand, so it is `row1_of_instrText`;
the modes `zp`, `abs`, `zpx` and `abx` are `row_of_instrText`. -/
theorem shiftAndRotateRows : Obligations.ShiftAndRotateRows := by
  intro b1 b2
  refine ⟨?aslZp, ?aslAcc, ?aslAbs, ?aslZpx, ?aslAbx,
    ?lsrZp, ?lsrAcc, ?lsrAbs, ?lsrZpx, ?lsrAbx,
    ?rolZp, ?rolAcc, ?rolAbs, ?rolZpx, ?rolAbx,
    ?rorZp, ?rorAcc, ?rorAbs, ?rorZpx, ?rorAbx⟩
  case aslAcc | lsrAcc | rolAcc | rorAcc => exact row1_of_instrText rfl rfl nofun fun _ => rfl
  all_goals exact row_of_instrText rfl rfl nofun fun _ => rfl

end Sys2Proof.ShiftRotate
end

section
/-! SUPPORT. What a branch row says of its instruction, from the line of the instruction and its annotation (R110,
R111, R71). -/

namespace Sys2Proof.Safety

open Sys2Proof.Machine

/-- The assembly text of a branch: its mnemonic and the raw displacement byte. -/
theorem instrText_of_rel {i : Instr} {op b1 : Byte} (he : encode i = [op, b1]) (hm : i.mode = .rel) (raw : Text) :
    instrText raw i = mnemonicText raw i.mnemonic ++ " $".toList ++ hex2 b1 := by
  simp [instrText, he, hm, opText]

/-- The row of a well-formed branch: its two bytes, and its line where `RAW_MNEMONIC` does not enter the mnemonic. -/
theorem branchRow_of_rel {i : Instr} {op b1 : Byte} {mn : Text} (hw : i.WellFormed = true)
    (he : encode i = [op, b1]) (hm : i.mode = .rel) (ht : ∀ raw, mnemonicText raw i.mnemonic = mn) :
    BranchRow i op b1 mn := by
  have hrenders := rendersAs_instrText hw
  have hcut := cutShort_encode hw
  rw [he] at hrenders hcut
  have htext : (fun s : State => instrText s.rawMnemonic i ++ annotation s.base s.cur i.mode (some b1)) =
      branchText mn b1 := by
    funext s
    rw [instrText_of_rel he hm, hm, annotation_rel, ht, ← List.append_assoc]
    rfl
  exact ⟨htext ▸ hrenders, hcut⟩

end Sys2Proof.Safety
end

section
/-! SUPPORT. The statements of 45_control.md, settled. -/

namespace Sys2Proof.Control

open Sys2Proof.Laws Sys2Proof.Safety

/-- Settles O7: `ind` is the mode of 0x6C alone by the classifier; JMP and JSR are rows of three bytes without
annotation (`row_of_instrText`), and RTS, RTI and BRK have no operand (`row1_of_instrText`). -/
theorem jumpReturnAndBreakRows : Obligations.JumpReturnAndBreakRows := by
  refine ⟨classify_mode_eq_ind_iff, fun b1 b2 => ⟨?jmpAbs, ?jmpInd, ?jsr, ?rts, ?rti, ?brk⟩⟩
  case rts | rti | brk => exact row1_of_instrText rfl rfl nofun fun _ => rfl
  all_goals exact row_of_instrText rfl rfl nofun fun _ => rfl

/-- Settles O8: the eight branches are the instructions of mode `rel`, so each row is `branchRow_of_rel` at its opcode
and mnemonic. -/
theorem branchRows : Obligations.BranchRows := by
  intro b1
  refine ⟨?bcc, ?bcs, ?beq, ?bmi, ?bne, ?bpl, ?bvc, ?bvs⟩
  all_goals exact branchRow_of_rel rfl rfl rfl fun _ => rfl

end Sys2Proof.Control
end

section
/-! SUPPORT. The statements of 46_flags_misc.md, settled. -/

namespace Sys2Proof.FlagsMisc

open Sys2Proof.Safety

/-- Settles O9: the seven flag instructions and NOP are of mode `imp`, one byte and no operand text, so each row is
`row1_of_instrText` at its opcode and mnemonic. -/
theorem flagAndNoOperationRows : Obligations.FlagAndNoOperationRows := by
  refine ⟨?clc, ?cld, ?cli, ?clv, ?sec, ?sed, ?sei, ?nop⟩
  all_goals exact row1_of_instrText rfl rfl nofun fun _ => rfl

end Sys2Proof.FlagsMisc
end

section
/-! SUPPORT. The raw data byte (R205): its text, what decodes to it, and the step that finds an undefined byte at the
cursor. -/

namespace Sys2Proof.Laws

/-- A raw data byte is well formed for the undefined bytes (R90). -/
theorem wellFormed_raw_iff (op : Byte) : (Instr.raw op).WellFormed = true ↔ op ∈ undefinedBytes :=
  List.contains_iff_mem

/-- What decodes to a raw data byte begins with that byte, an undefined one (R90, R205). -/
theorem decode_eq_raw {op op' : Byte} {rest rest' : List Byte} (h : decode (op :: rest) = .ok (.raw op', rest')) :
    op' = op ∧ rest' = rest ∧ op ∈ undefinedBytes := by
  obtain ⟨hbytes, hw⟩ := eq_encode_append_of_decode h
  obtain ⟨rfl, rfl⟩ := List.cons.inj hbytes
  exact ⟨rfl, rfl, (wellFormed_raw_iff op).1 hw⟩

end Sys2Proof.Laws

namespace Sys2Proof.Safety

open Sys2Proof.Laws Sys2Proof.Machine

/-- The assembly text of a raw data byte: `RAW_MNEMONIC` and the byte's value (R78, D11). -/
theorem instrText_raw (raw : Text) (op : Byte) : instrText raw (.raw op) = raw ++ " $".toList ++ hex2 op := by
  simp [instrText, Instr.mnemonic, Instr.mode, encode, mnemonicText, opText]

/-- A raw data byte renders as `RAW_MNEMONIC` and its value, without annotation. -/
theorem rendersAs_raw {op : Byte} (h : op ∈ undefinedBytes) :
    RendersAs (.raw op) [op] (fun s => s.rawMnemonic ++ " $".toList ++ hex2 op) := by
  have hm : (Instr.raw op).mode ≠ .rel := nofun
  have hrenders : RendersAs (.raw op) [op] _ := rendersAs_instrText ((wellFormed_raw_iff op).2 h)
  simpa only [annotation_of_ne_rel hm, List.append_nil, instrText_raw] using hrenders

end Sys2Proof.Safety

namespace Sys2Proof.Machine

open Sys2Proof.Laws Sys2Proof.Safety

/-- The step that finds an undefined byte is the meaning of the raw data byte (R214). -/
theorem step_of_undefined {s : State} (hr : s.status = .running) (hc : s.cur < s.n)
    (h : s.buf.read s.cur ∈ undefinedBytes) : step s = exec (.raw (s.buf.read s.cur)) s := by
  have hat : AtCursor s (encode (.raw (s.buf.read s.cur))) := by
    intro k hk
    obtain rfl : k = 0 := Nat.lt_one_iff.1 hk
    rfl
  exact step_eq_exec_of_atCursor hr hc ((wellFormed_raw_iff _).2 h) hc hat

/-- A raw data byte inside the buffer appends its line and moves the cursor by 1: it needs no operand byte (R205). -/
theorem exec_raw {s : State} (hr : s.status = .running) (hc : s.cur < s.n) (op : Byte) :
    exec (.raw op) s = .next (advance 1 (emit (lineOf s.base s.rawMnemonic s.cur (.raw op)) s)) :=
  exec_of_fits hr hc hc

end Sys2Proof.Machine
end

section
/-! SUPPORT. The statements of 47_raw_data.md, settled. -/

namespace Sys2Proof.RawData

open Sys2Proof.Laws Sys2Proof.Machine Sys2Proof.Safety

/-- Settles O10: a raw data byte is well formed exactly for the undefined bytes, so it renders from its one byte, and
only such a byte decodes to it. -/
theorem rawDataByteRows : Obligations.RawDataByteRows :=
  ⟨fun _ => rendersAs_raw, fun _ _ _ _ => decode_eq_raw⟩

/-- Settles O31: a step that does not take the error moves the cursor by the instruction's length, 1, 2 or 3. -/
theorem forwardProgress : Obligations.ForwardProgress := by
  intro s t h ht
  obtain ⟨-, -, ⟨-, rfl⟩ | ⟨-, i, -, -, -, rfl⟩⟩ := step_next h
  · exact absurd rfl ht
  · have hlen := len_cases i
    rw [advance_cur, emit_cur]
    omega

end Sys2Proof.RawData
end

section
/-! SUPPORT. The pass status after a step (R120, R214). -/

namespace Sys2Proof.Machine

/-- A running pass whose cursor has moved is `RUNNING` or `DONE` (R120). -/
theorem statusAt_running_cases (cur n : Nat) :
    statusAt cur n .running = .running ∨ statusAt cur n .running = .done := by
  by_cases h : cur = n
  · exact .inr (statusAt_running_eq_done.2 h)
  · exact .inl (statusAt_running_eq_running.2 h)

/-- A step leaves the pass `RUNNING`, `DONE` or `TRUNCATED`. -/
theorem step_status_cases {s t : State} (h : step s = .next t) :
    t.status = .running ∨ t.status = .done ∨ t.status = .truncated := by
  obtain ⟨hr, -, ⟨-, rfl⟩ | ⟨-, i, -, -, -, rfl⟩⟩ := step_next h
  · exact .inr (.inr rfl)
  · rw [advance_status, emit_status, hr]
    exact (statusAt_running_cases _ _).imp_right .inl

end Sys2Proof.Machine
end

section
/-! SUPPORT. The statements of 60_exceptions.md, settled. -/

namespace Sys2Proof.Exceptions

open Sys2Proof.Machine Sys2Proof.Safety

/-- Settles O30: an enabled step answers a next state, and over an undefined byte it is the raw data byte's meaning,
which appends a line and leaves the status to the cursor. -/
theorem enabledStepsComplete : Obligations.EnabledStepsComplete := by
  intro s ⟨hr, hc⟩
  obtain ⟨t, ht⟩ := step_ready hr hc
  refine ⟨t, ht, step_status_cases ht, fun hop => ?_⟩
  have hs := step_of_undefined hr hc hop
  have hraw := hs.trans (exec_raw hr hc _)
  obtain rfl := Host.Outcome.next.inj (ht.symm.trans hraw)
  exact ⟨by simp [hr], hs, rfl⟩

end Sys2Proof.Exceptions
end

section
/-! SUPPORT. The buffer at the start of a pass (R230). -/

namespace Sys2Proof.Machine

open Sys2Proof.Safety

/-- Every byte of the binary reads as given. -/
theorem memRead_startPass {bytes : List Byte} {k : Nat} (hk : k < bytes.length) (base : Addr) (raw : Text)
    (err : ErrRecord) : memRead (startPass bytes base raw err) k = .ok bytes[k] := by
  have hread := bytesFrom_getD (startPass bytes base raw err).buf 0 bytes.length k hk
  rw [bytesFrom_startPass, Nat.zero_add, List.getD_eq_getElem _ _ hk] at hread
  rw [memRead_of_lt hk, hread]

end Sys2Proof.Machine
end

section
/-! SUPPORT. The statements of 70_reset_and_hazards.md, settled. -/

namespace Sys2Proof.Reset

open Sys2Proof.Machine

/-- Settles O42: `boot` checks the metadata table first, then the binary. -/
theorem bootOrder : Obligations.BootOrder := by
  intro binary base raw err
  exact ⟨rfl, rfl, fun _ => rfl⟩

/-- Settles O39: the host's load puts the bytes in place, the status tells whether there are any, and the other fields
are those given. -/
theorem passStartState : Obligations.PassStartState := by
  intro bytes base raw err
  refine ⟨rfl, fun k hk => memRead_startPass hk base raw err, rfl, rfl, rfl, fun h => ?_, fun h => ?_, rfl, rfl⟩
  · exact if_neg h.ne'
  · exact if_pos h

end Sys2Proof.Reset
end
